-- ==== Sys2Proof/Word.lean ====
section
/-! DEFINITION. The word types of the VQ-412 and the operand types of its commands. -/

namespace Sys2Proof

/-- One byte of a frame (R203). -/
abbrev Byte := BitVec 8

/-- The 64-bit identity code of a tool holder; 0 means "no tag" (00_scope, R7). -/
abbrev Tag := BitVec 64

/-- A station link, S0 to S3 (R200). -/
abbrev LinkId := Fin 4

/-- The number of a tool record, 0 to 511 (R1). -/
abbrev RecNo := Fin 512

/-- Where a request comes from: its link, and the tag byte its frame carries (R203). -/
structure Caller where
  link    : LinkId
  tagByte : Byte
  deriving DecidableEq, Repr

/-- The three quadrature encoders (R41, R43). -/
inductive Encoder where
  | z | x | a
  deriving DecidableEq, Repr

/-- The pins as they stand when main power rises (R200, R201, R213): the role straps and the rate straps of
S0 to S3 (bit 1 the second strap, bit 0 the first), the three line levels, and where each encoder's phase pair
stands in its cycle. R200 names the role straps second first; that R201 names the rate straps so is DEDUCED (log 41). -/
structure Pins where
  roleStraps : Vector (BitVec 2) 4
  rateStraps : Vector (BitVec 2) 4
  edge       : Bool
  guardLine  : Bool
  door       : Bool
  zPhase     : Fin 4
  xPhase     : Fin 4
  aPhase     : Fin 4
  deriving DecidableEq, Repr

end Sys2Proof
end

