-- ==== Sys2Proof/Config.lean ====
section
/-! DEFINITION. What the spec leaves open as free values: constants without a body, so no proof can rest on what
they are. -/

namespace Sys2Proof.Config

/-- How a plan override's present-marker is read (R65). -/
inductive MarkerReading where
  | absent | present | refused
  deriving DecidableEq, Repr, Inhabited

/-- How MEASURE reads a present-marker other than 0 and 1; the spec does not say (log 20). -/
opaque strayMarker : Byte → MarkerReading

/-- The byte READ_AXES sends for the edge line, `true` for active (R61 gives no codes; log 18). -/
opaque edgeLineCode : Bool → Byte

/-- The byte READ_AXES sends for the guard line, `true` for open (R61 gives no codes; log 18). -/
opaque guardLineCode : Bool → Byte

/-- The byte LIST_ORDERS sends for the door line, `true` for open (R157 gives no codes; log 18). -/
opaque doorLineCode : Bool → Byte

/-- The byte ISSUE_STATUS sends for the failure reason NO_RETRY_LEFT (R123 gives no code; log 18). -/
opaque noRetryLeftCode : Byte

end Sys2Proof.Config
end

