-- ==== Sys2Proof/Syntax.lean ====
section
/-! DEFINITION. The commands of the VQ-412: one constructor per row of spec/opcode_table.json.

A request's operands are its caller and its parameters, in the order its rule gives them and at the widths R203
and R2 give them on the wire. An event's operands say which link, line, order or entry it happens to. -/

namespace Sys2Proof

/-- The commands. The rule each row belongs to is named beside it. -/
inductive Instr where
  -- tool records (01)
  /-- R13 -/
  | register (c : Caller) (rec : BitVec 16) (tag : Tag) (cls : BitVec 16) (nomLen nomRad : BitVec 32)
      (lenTol radTol runout wear : BitVec 16) (features stations samples lifeMode : Byte) (lifeInit : BitVec 24)
  /-- R14 -/
  | retire (c : Caller) (rec : BitVec 16)
  /-- R15 -/
  | release (c : Caller) (rec : BitVec 16)
  /-- R16 -/
  | resetLife (c : Caller) (rec : BitVec 16)
  /-- R17 -/
  | reconcile (c : Caller) (rec : BitVec 16) (target pocket link machine machinePocket : Byte)
  /-- R19 -/
  | addRecall (c : Caller) (tag : Tag)
  /-- R22 -/
  | removeRecall (c : Caller) (tag : Tag)
  /-- R18 -/
  | listRecall (c : Caller) (skip count : Byte)
  -- record access (02)
  /-- R25 -/
  | readRecord (c : Caller) (rec : BitVec 16) (first count : Byte)
  /-- R28 -/
  | openEdit (c : Caller) (rec : BitVec 16) (first last mode : Byte) (expected : BitVec 16)
  /-- R30: the bytes of the entries, as they fill the rest of the frame body. -/
  | editData (c : Caller) (bytes : List Byte)
  /-- R32 -/
  | closeEdit (c : Caller)
  /-- R37 -/
  | abortEdit (c : Caller)
  -- axis counters and edge capture (03)
  /-- R61 -/
  | readAxes (c : Caller)
  -- measurement jobs (04)
  /-- R65: `marker` is the present-marker of the plan override. -/
  | measure (c : Caller) (kind : Byte) (rec : BitVec 16) (urgent marker features stations samples : Byte)
  /-- R68 -/
  | cancelJob (c : Caller) (job : BitVec 16)
  /-- R70 -/
  | listJobs (c : Caller)
  /-- R77 -/
  | getJob (c : Caller)
  /-- R78 -/
  | mount (c : Caller) (job : BitVec 16) (tag : Tag)
  /-- R79 -/
  | armStation (c : Caller) (job : BitVec 16) (station : Byte)
  /-- R83 -/
  | abortJob (c : Caller) (job : BitVec 16)
  /-- R86 -/
  | getResult (c : Caller)
  /-- R87 -/
  | readResults (c : Caller) (skip count : Byte)
  -- reference and calibration (06)
  /-- R110 -/
  | setGauge (c : Caller) (tag : Tag) (length radius : BitVec 32) (stations samples : Byte)
  /-- R111 -/
  | readReference (c : Caller)
  /-- R112 -/
  | clearReference (c : Caller)
  -- tool issue (07)
  /-- R125 -/
  | requestTool (c : Caller) (machine machinePocket : Byte) (cls : BitVec 16) (minLife : BitVec 24) (priority : Byte)
  /-- R127 -/
  | withdrawTicket (c : Caller) (ticket : BitVec 16)
  /-- R128 -/
  | issueStatus (c : Caller) (ticket : BitVec 16)
  /-- R129 -/
  | listTickets (c : Caller)
  -- crib orders and deposits (08)
  /-- R149 -/
  | fetchOrder (c : Caller)
  /-- R151 -/
  | orderDone (c : Caller) (order : BitVec 16) (outcome : Byte)
  /-- R159 -/
  | deposit (c : Caller) (tag : Tag) (pocket : Byte)
  /-- R157 -/
  | listOrders (c : Caller)
  -- handoff and tool life (09)
  /-- R171 -/
  | fetchHandoff (c : Caller)
  /-- R172 -/
  | confirmLoad (c : Caller) (handoff : BitVec 16) (tag : Tag)
  /-- R174 -/
  | rejectHandoff (c : Caller) (handoff : BitVec 16)
  /-- R179 -/
  | reportUsage (c : Caller) (rec : BitVec 16) (amount : BitVec 24)
  /-- R180 -/
  | reportUnload (c : Caller) (rec : BitVec 16)
  /-- R178 -/
  | readHandoff (c : Caller) (handoff : BitVec 16)
  /-- R178 -/
  | listHandoffs (c : Caller)
  -- conditions, attention and hall time (10)
  /-- R192 -/
  | conditionPoll (c : Caller)
  /-- R193: the count byte and the enable values that follow it. -/
  | setMask (c : Caller) (count : Byte) (enables : List Byte)
  /-- R196 -/
  | clearRetentionLost (c : Caller)
  /-- R198 -/
  | setTime (c : Caller) (seconds : BitVec 32)
  /-- R199 -/
  | getTime (c : Caller)
  -- station links (11)
  /-- R208 -/
  | setSetting (c : Caller) (number : Byte) (value : BitVec 32)
  /-- R209 -/
  | getSetting (c : Caller) (number : Byte)
  /-- R207: a frame whose function code is not in the request table. -/
  | undefinedFunction (c : Caller) (function : Byte) (params : List Byte)
  /-- R205: the characters of one whole frame; `body` runs from the function code to the last parameter byte. -/
  | frameReceived (link : LinkId) (body : List Byte) (check : BitVec 16)
  /-- R205 -/
  | receiveGapTimeout (link : LinkId)
  /-- R206 -/
  | answerSent (link : LinkId)
  /-- R211 -/
  | linkBreak (link : LinkId)
  -- sensor inputs and their timers (03)
  /-- R41 to R43: the phase pair of an encoder comes to stand at `phase` of its cycle of four, numbered in the
  direction that counts up. -/
  | encoderStep (encoder : Encoder) (phase : Fin 4)
  /-- R44 -/
  | indexPulse
  /-- R47 -/
  | edgeActive
  /-- R48, R49 -/
  | edgeInactive
  /-- R48 -/
  | dwellEnd
  /-- R49 -/
  | deadTimeEnd
  /-- R50 -/
  | guardOpens
  /-- R50 -/
  | guardCloses
  /-- R81 -/
  | stationTimeout
  /-- R150 -/
  | doorOpens
  /-- R150 -/
  | doorCloses
  /-- R154: of the order with this number. -/
  | dispenseTimeout (order : BitVec 16)
  /-- R176: of the entry with this handoff number. -/
  | loadTimeout (handoff : BitVec 16)
  /-- R38 -/
  | editIdleTimeout (link : LinkId)
  /-- R197 -/
  | hallClockAdvance
  /-- R118 -/
  | pendingAgeTick
  -- power (11)
  /-- R213 -/
  | start (pins : Pins)
  /-- R212 -/
  | mainPowerLoss
  /-- R212 -/
  | backupSupplyLoss
  -- single characters (11)
  /-- R201, R205: a character ends; `stopMark` tells whether its stop bit was found at mark. -/
  | characterReceived (link : LinkId) (data : Byte) (stopMark : Bool)
  /-- R211 -/
  | breakLineReturnsToMark (link : LinkId)
  deriving DecidableEq, Repr

end Sys2Proof
end

