-- ==== Sys2Proof/WellFormed.lean ====
section
/-! DEFINITION. Which commands can be sent: the bounds a frame puts on operands that are lists of bytes (R203).
Every other operand is bounded by its type; a value out of its range is answered by the request's own rule. -/

namespace Sys2Proof

/-- A frame body is 2 to 240 bytes: the function code, the tag byte, and up to 238 bytes of parameters (R203). -/
def maxParams : Nat := 238

/-- The function codes of the request table (11). -/
def isFunctionCode (code : Nat) : Bool := decide (1 ≤ code) && decide (code ≤ 48)

/-- A command is well formed when its byte lists fit a frame, and an undefined function is not in the table. -/
def Instr.wellFormed : Instr → Bool
  | .editData _ bytes => decide (bytes.length ≤ maxParams)
  | .setMask _ _ enables => decide (enables.length + 1 ≤ maxParams)
  | .undefinedFunction _ function params =>
      !isFunctionCode function.toNat && decide (params.length ≤ maxParams)
  | .frameReceived _ body _ => decide (2 ≤ body.length) && decide (body.length ≤ 240)
  | _ => true

end Sys2Proof
end

