-- ==== Sys2Proof/Decode.lean ====
section
/-! DEFINITION. Byte order and the frame layout of R203 and R204: the parameters of every request as bytes, the
requests read back from bytes, and the frame check. The opcode table gives no row bits, so `decodeTableWord`
reads no word. -/

namespace Sys2Proof

/-- The `n` bytes of a number, least significant byte first (R203). -/
def leBytes : Nat → Nat → List Byte
  | 0, _ => []
  | n + 1, v => BitVec.ofNat 8 v :: leBytes n (v / 256)

/-- The number that bytes spell, least significant byte first (R203). -/
def leNat : List Byte → Nat
  | [] => 0
  | b :: bs => b.toNat + 256 * leNat bs

/-- The two's complement reading of `n` bytes: a length or a count is signed (R2, R203). -/
def leInt (bs : List Byte) : Int :=
  let v := leNat bs
  if 2 * v < 256 ^ bs.length then (v : Int) else (v : Int) - (256 ^ bs.length : Nat)

/-- The `n` bytes of a signed number, least significant byte first (R203). -/
def leBytesInt (n : Nat) (v : Int) : List Byte := leBytes n (v % ((256 ^ n : Nat) : Int)).toNat

/-- Numbers laid out one after another, each at its width in bytes. -/
def writeFields : List Nat → List Nat → List Byte
  | w :: ws, v :: vs => leBytes w v ++ writeFields ws vs
  | _, _ => []

/-- Numbers read one after another at their widths; `none` unless the bytes are exactly as many (R207 step 4). -/
def readFields : List Nat → List Byte → Option (List Nat)
  | [], [] => some []
  | [], _ :: _ => none
  | w :: ws, bs =>
      if bs.length < w then none
      else (readFields ws (bs.drop w)).map (leNat (bs.take w) :: ·)

/-- The function code of each request (the request table of 11). Events have none. -/
def Instr.code : Instr → Option Nat
  | .register .. => some 0x01
  | .retire .. => some 0x02
  | .release .. => some 0x03
  | .resetLife .. => some 0x04
  | .reconcile .. => some 0x05
  | .addRecall .. => some 0x06
  | .removeRecall .. => some 0x07
  | .listRecall .. => some 0x08
  | .readRecord .. => some 0x09
  | .openEdit .. => some 0x0A
  | .editData .. => some 0x0B
  | .closeEdit .. => some 0x0C
  | .abortEdit .. => some 0x0D
  | .readAxes .. => some 0x0E
  | .measure .. => some 0x0F
  | .cancelJob .. => some 0x10
  | .listJobs .. => some 0x11
  | .getJob .. => some 0x12
  | .mount .. => some 0x13
  | .armStation .. => some 0x14
  | .abortJob .. => some 0x15
  | .getResult .. => some 0x16
  | .readResults .. => some 0x17
  | .setGauge .. => some 0x18
  | .readReference .. => some 0x19
  | .clearReference .. => some 0x1A
  | .requestTool .. => some 0x1B
  | .withdrawTicket .. => some 0x1C
  | .issueStatus .. => some 0x1D
  | .listTickets .. => some 0x1E
  | .fetchOrder .. => some 0x1F
  | .orderDone .. => some 0x20
  | .deposit .. => some 0x21
  | .listOrders .. => some 0x22
  | .fetchHandoff .. => some 0x23
  | .confirmLoad .. => some 0x24
  | .rejectHandoff .. => some 0x25
  | .reportUsage .. => some 0x26
  | .reportUnload .. => some 0x27
  | .readHandoff .. => some 0x28
  | .listHandoffs .. => some 0x29
  | .conditionPoll .. => some 0x2A
  | .setMask .. => some 0x2B
  | .clearRetentionLost .. => some 0x2C
  | .setTime .. => some 0x2D
  | .getTime .. => some 0x2E
  | .setSetting .. => some 0x2F
  | .getSetting .. => some 0x30
  | .undefinedFunction .. => none
  | .frameReceived .. => none
  | .receiveGapTimeout .. => none
  | .answerSent .. => none
  | .linkBreak .. => none
  | .encoderStep .. => none
  | .indexPulse => none
  | .edgeActive => none
  | .edgeInactive => none
  | .dwellEnd => none
  | .deadTimeEnd => none
  | .guardOpens => none
  | .guardCloses => none
  | .stationTimeout => none
  | .doorOpens => none
  | .doorCloses => none
  | .dispenseTimeout .. => none
  | .loadTimeout .. => none
  | .editIdleTimeout .. => none
  | .hallClockAdvance => none
  | .pendingAgeTick => none
  | .start .. => none
  | .mainPowerLoss => none
  | .backupSupplyLoss => none
  | .characterReceived .. => none
  | .breakLineReturnsToMark .. => none

/-- The widths in bytes of a request's parameters, in order, by function code (R203 and each request's rule).
EDIT_DATA (0x0B) and SET_MASK (0x2B) have no fixed length. DESIGN CHOICE (log 39): the setting number of SET_SETTING and
GET_SETTING (0x2F, 0x30) takes one byte, which R203 does not say. -/
def paramWidths : Nat → List Nat
  | 0x01 => [2, 8, 2, 4, 4, 2, 2, 2, 2, 1, 1, 1, 1, 3]
  | 0x02 => [2]
  | 0x03 => [2]
  | 0x04 => [2]
  | 0x05 => [2, 1, 1, 1, 1, 1]
  | 0x06 => [8]
  | 0x07 => [8]
  | 0x08 => [1, 1]
  | 0x09 => [2, 1, 1]
  | 0x0A => [2, 1, 1, 1, 2]
  | 0x0F => [1, 2, 1, 1, 1, 1, 1]
  | 0x10 => [2]
  | 0x13 => [2, 8]
  | 0x14 => [2, 1]
  | 0x15 => [2]
  | 0x17 => [1, 1]
  | 0x18 => [8, 4, 4, 1, 1]
  | 0x1B => [1, 1, 2, 3, 1]
  | 0x1C => [2]
  | 0x1D => [2]
  | 0x20 => [2, 1]
  | 0x21 => [8, 1]
  | 0x24 => [2, 8]
  | 0x25 => [2]
  | 0x26 => [2, 3]
  | 0x27 => [2]
  | 0x28 => [2]
  | 0x2D => [4]
  | 0x2F => [1, 4]
  | 0x30 => [1]
  | _ => []

/-- The numbers a request's parameters spell, in order. -/
def Instr.fields : Instr → List Nat
  | .register _ r t c l d lt rt ru we f s k m i =>
      [r.toNat, t.toNat, c.toNat, l.toNat, d.toNat, lt.toNat, rt.toNat, ru.toNat, we.toNat, f.toNat, s.toNat,
        k.toNat, m.toNat, i.toNat]
  | .retire _ r => [r.toNat]
  | .release _ r => [r.toNat]
  | .resetLife _ r => [r.toNat]
  | .reconcile _ r t p l m q => [r.toNat, t.toNat, p.toNat, l.toNat, m.toNat, q.toNat]
  | .addRecall _ t => [t.toNat]
  | .removeRecall _ t => [t.toNat]
  | .listRecall _ k n => [k.toNat, n.toNat]
  | .readRecord _ r f n => [r.toNat, f.toNat, n.toNat]
  | .openEdit _ r f l m v => [r.toNat, f.toNat, l.toNat, m.toNat, v.toNat]
  | .measure _ k r u m f s n => [k.toNat, r.toNat, u.toNat, m.toNat, f.toNat, s.toNat, n.toNat]
  | .cancelJob _ j => [j.toNat]
  | .mount _ j t => [j.toNat, t.toNat]
  | .armStation _ j s => [j.toNat, s.toNat]
  | .abortJob _ j => [j.toNat]
  | .readResults _ k n => [k.toNat, n.toNat]
  | .setGauge _ t l r s n => [t.toNat, l.toNat, r.toNat, s.toNat, n.toNat]
  | .requestTool _ m p c l u => [m.toNat, p.toNat, c.toNat, l.toNat, u.toNat]
  | .withdrawTicket _ t => [t.toNat]
  | .issueStatus _ t => [t.toNat]
  | .orderDone _ o r => [o.toNat, r.toNat]
  | .deposit _ t p => [t.toNat, p.toNat]
  | .confirmLoad _ h t => [h.toNat, t.toNat]
  | .rejectHandoff _ h => [h.toNat]
  | .reportUsage _ r a => [r.toNat, a.toNat]
  | .reportUnload _ r => [r.toNat]
  | .readHandoff _ h => [h.toNat]
  | .setTime _ t => [t.toNat]
  | .setSetting _ n v => [n.toNat, v.toNat]
  | .getSetting _ n => [n.toNat]
  | _ => []

/-- The parameter bytes of a request, as its frame carries them (R203). -/
def Instr.params (i : Instr) : List Byte :=
  match i with
  | .editData _ bytes => bytes
  | .setMask _ count enables => count :: enables
  | .undefinedFunction _ _ params => params
  | i => writeFields (paramWidths (i.code.getD 0)) i.fields

/-- A request from its function code and the numbers its parameters spell. -/
def requestOf (c : Caller) : Nat → List Nat → Option Instr
  | 0x01, [r, t, k, l, d, lt, rt, ru, we, f, s, n, m, i] =>
      some (.register c (.ofNat 16 r) (.ofNat 64 t) (.ofNat 16 k) (.ofNat 32 l) (.ofNat 32 d) (.ofNat 16 lt)
        (.ofNat 16 rt) (.ofNat 16 ru) (.ofNat 16 we) (.ofNat 8 f) (.ofNat 8 s) (.ofNat 8 n) (.ofNat 8 m) (.ofNat 24 i))
  | 0x02, [r] => some (.retire c (.ofNat 16 r))
  | 0x03, [r] => some (.release c (.ofNat 16 r))
  | 0x04, [r] => some (.resetLife c (.ofNat 16 r))
  | 0x05, [r, t, p, l, m, q] =>
      some (.reconcile c (.ofNat 16 r) (.ofNat 8 t) (.ofNat 8 p) (.ofNat 8 l) (.ofNat 8 m) (.ofNat 8 q))
  | 0x06, [t] => some (.addRecall c (.ofNat 64 t))
  | 0x07, [t] => some (.removeRecall c (.ofNat 64 t))
  | 0x08, [k, n] => some (.listRecall c (.ofNat 8 k) (.ofNat 8 n))
  | 0x09, [r, f, n] => some (.readRecord c (.ofNat 16 r) (.ofNat 8 f) (.ofNat 8 n))
  | 0x0A, [r, f, l, m, v] =>
      some (.openEdit c (.ofNat 16 r) (.ofNat 8 f) (.ofNat 8 l) (.ofNat 8 m) (.ofNat 16 v))
  | 0x0C, [] => some (.closeEdit c)
  | 0x0D, [] => some (.abortEdit c)
  | 0x0E, [] => some (.readAxes c)
  | 0x0F, [k, r, u, m, f, s, n] =>
      some (.measure c (.ofNat 8 k) (.ofNat 16 r) (.ofNat 8 u) (.ofNat 8 m) (.ofNat 8 f) (.ofNat 8 s) (.ofNat 8 n))
  | 0x10, [j] => some (.cancelJob c (.ofNat 16 j))
  | 0x11, [] => some (.listJobs c)
  | 0x12, [] => some (.getJob c)
  | 0x13, [j, t] => some (.mount c (.ofNat 16 j) (.ofNat 64 t))
  | 0x14, [j, s] => some (.armStation c (.ofNat 16 j) (.ofNat 8 s))
  | 0x15, [j] => some (.abortJob c (.ofNat 16 j))
  | 0x16, [] => some (.getResult c)
  | 0x17, [k, n] => some (.readResults c (.ofNat 8 k) (.ofNat 8 n))
  | 0x18, [t, l, r, s, n] =>
      some (.setGauge c (.ofNat 64 t) (.ofNat 32 l) (.ofNat 32 r) (.ofNat 8 s) (.ofNat 8 n))
  | 0x19, [] => some (.readReference c)
  | 0x1A, [] => some (.clearReference c)
  | 0x1B, [m, p, k, l, u] =>
      some (.requestTool c (.ofNat 8 m) (.ofNat 8 p) (.ofNat 16 k) (.ofNat 24 l) (.ofNat 8 u))
  | 0x1C, [t] => some (.withdrawTicket c (.ofNat 16 t))
  | 0x1D, [t] => some (.issueStatus c (.ofNat 16 t))
  | 0x1E, [] => some (.listTickets c)
  | 0x1F, [] => some (.fetchOrder c)
  | 0x20, [o, r] => some (.orderDone c (.ofNat 16 o) (.ofNat 8 r))
  | 0x21, [t, p] => some (.deposit c (.ofNat 64 t) (.ofNat 8 p))
  | 0x22, [] => some (.listOrders c)
  | 0x23, [] => some (.fetchHandoff c)
  | 0x24, [h, t] => some (.confirmLoad c (.ofNat 16 h) (.ofNat 64 t))
  | 0x25, [h] => some (.rejectHandoff c (.ofNat 16 h))
  | 0x26, [r, a] => some (.reportUsage c (.ofNat 16 r) (.ofNat 24 a))
  | 0x27, [r] => some (.reportUnload c (.ofNat 16 r))
  | 0x28, [h] => some (.readHandoff c (.ofNat 16 h))
  | 0x29, [] => some (.listHandoffs c)
  | 0x2A, [] => some (.conditionPoll c)
  | 0x2C, [] => some (.clearRetentionLost c)
  | 0x2D, [t] => some (.setTime c (.ofNat 32 t))
  | 0x2E, [] => some (.getTime c)
  | 0x2F, [n, v] => some (.setSetting c (.ofNat 8 n) (.ofNat 32 v))
  | 0x30, [n] => some (.getSetting c (.ofNat 8 n))
  | _, _ => none

/-- The request that a function code and parameter bytes spell; `none` when the bytes are not exactly as many as
the request takes (R207 step 4). EDIT_DATA takes any bytes, and SET_MASK a count and any bytes after it. -/
def decodeRequest (c : Caller) (code : Nat) (params : List Byte) : Option Instr :=
  if code = 0x0B then some (.editData c params)
  else if code = 0x2B then
    match params with
    | [] => none
    | count :: enables => some (.setMask c count enables)
  else (readFields (paramWidths code) params).bind (requestOf c code)

/-- One bit of the frame check: generator 0x1021, most significant bit first (R204). -/
def checkBit (crc : BitVec 16) (bit : Bool) : BitVec 16 :=
  if crc.msb != bit then (crc <<< 1) ^^^ 0x1021#16 else crc <<< 1

/-- One byte of the frame check, its most significant bit first (R204). -/
def checkByte (crc : BitVec 16) (b : Byte) : BitVec 16 :=
  [7, 6, 5, 4, 3, 2, 1, 0].foldl (fun r k => checkBit r (b.getLsbD k)) crc

/-- The frame check over the length byte and the body: starting value 0xFFFF, no final inversion (R204). -/
def frameCheck (bytes : List Byte) : BitVec 16 := bytes.foldl checkByte 0xFFFF#16

/-- The sync byte (R203). -/
def syncByte : Byte := 0xC3#8

/-- The length byte of a body (R203). -/
def lengthByte (body : List Byte) : Byte := BitVec.ofNat 8 body.length

/-- The two check bytes, high byte first (R203). -/
def checkBytes (check : BitVec 16) : List Byte := [check.extractLsb' 8 8, check.extractLsb' 0 8]

/-- A whole frame on the wire: sync, length, body, check (R203). -/
def frameBytes (body : List Byte) (check : BitVec 16) : List Byte :=
  syncByte :: lengthByte body :: (body ++ checkBytes check)

/-- The caller of a request command. Events have none. -/
def Instr.caller : Instr → Option Caller
  | .register c .. => some c
  | .retire c _ => some c
  | .release c _ => some c
  | .resetLife c _ => some c
  | .reconcile c .. => some c
  | .addRecall c _ => some c
  | .removeRecall c _ => some c
  | .listRecall c .. => some c
  | .readRecord c .. => some c
  | .openEdit c .. => some c
  | .editData c _ => some c
  | .closeEdit c => some c
  | .abortEdit c => some c
  | .readAxes c => some c
  | .measure c .. => some c
  | .cancelJob c _ => some c
  | .listJobs c => some c
  | .getJob c => some c
  | .mount c .. => some c
  | .armStation c .. => some c
  | .abortJob c _ => some c
  | .getResult c => some c
  | .readResults c .. => some c
  | .setGauge c .. => some c
  | .readReference c => some c
  | .clearReference c => some c
  | .requestTool c .. => some c
  | .withdrawTicket c _ => some c
  | .issueStatus c _ => some c
  | .listTickets c => some c
  | .fetchOrder c => some c
  | .orderDone c .. => some c
  | .deposit c .. => some c
  | .listOrders c => some c
  | .fetchHandoff c => some c
  | .confirmLoad c .. => some c
  | .rejectHandoff c _ => some c
  | .reportUsage c .. => some c
  | .reportUnload c _ => some c
  | .readHandoff c _ => some c
  | .listHandoffs c => some c
  | .conditionPoll c => some c
  | .setMask c .. => some c
  | .clearRetentionLost c => some c
  | .setTime c _ => some c
  | .getTime c => some c
  | .setSetting c .. => some c
  | .getSetting c _ => some c
  | .undefinedFunction c .. => some c
  | _ => none

/-- The function code byte a request's frame carries. -/
def Instr.functionByte : Instr → Byte
  | .undefinedFunction _ function _ => function
  | i => BitVec.ofNat 8 (i.code.getD 0)

/-- The frame body of a request: function code, tag byte, parameters (R203). -/
def Instr.body (i : Instr) : List Byte :=
  match i.caller with
  | none => []
  | some c => i.functionByte :: c.tagByte :: i.params

/-- The opcode table gives no row bits: no word spells a command. -/
def decodeTableWord (_nbits _w : Nat) : Option Instr := none

end Sys2Proof
end

