-- ==== Sys2Proof/Machine/State.lean ====
section
/-! DEFINITION. The state of the VQ-412 as plain data, the reasons a step can stop, and the state after reset. -/

namespace Sys2Proof.Machine

/-! ### Tool records (01) -/

/-- The eleven record states (R3, R5). -/
inductive RecState where
  | empty | presetDue | measuring | ready | allocated | inTransit | inMachine | returning | quarantine | worn | check
  deriving DecidableEq, Repr

/-- A machine place: a link, a machine on it, and a machine pocket (R2 field 6). -/
structure Place where
  link    : LinkId
  machine : Nat
  pocket  : Nat
  deriving DecidableEq, Repr

/-- Where a tool is. The crib pocket is present exactly at CRIB and the machine place exactly at MACHINE, so
fields 4, 5 and 6 of R2 are one value (R6). -/
inductive Location where
  | crib (pocket : Fin 240)
  | presetter
  | transit
  | machine (place : Place)
  | unknown
  deriving DecidableEq, Repr

/-- What a measurement finds (R3). -/
inductive Features where
  | length | radius | both
  deriving DecidableEq, Repr

/-- What a measurement collects: features, stations, samples per station (R2 field 13). -/
structure Plan where
  features : Features
  stations : Nat
  samples  : Nat
  deriving DecidableEq, Repr

/-- The unit of a tool's life (R8). -/
inductive LifeMode where
  | seconds | parts
  deriving DecidableEq, Repr

/-- The last fault found in the field (R3, R10). -/
inductive LastFault where
  | none | pocketEmpty | jammed | orderTimeout | loadTimeout | tagLost
  deriving DecidableEq, Repr

/-- The last verdict of a computation (R3, R99). -/
inductive Verdict where
  | none | good | calStale | outOfRange | runout | outTol | wearLimit
  deriving DecidableEq, Repr

/-- One tool record with the fields of R2. -/
structure ToolRecord where
  state       : RecState
  version     : BitVec 16
  tag         : Tag
  cls         : Nat
  loc         : Location
  nomLen      : Nat
  nomRad      : Nat
  lenTol      : Nat
  radTol      : Nat
  runoutLimit : Nat
  wearLimit   : Nat
  plan        : Plan
  lifeMode    : LifeMode
  lifeInit    : Nat
  lifeRem     : Nat
  presetLen   : Option Nat
  presetRad   : Option Nat
  presetJob   : Option Nat
  presetTime  : Option Nat
  recalled    : Bool
  damaged     : Bool
  lastFault   : LastFault
  lastVerdict : Verdict
  deriving DecidableEq, Repr

/-- The EMPTY values of R2, with version 0 (R23). -/
def ToolRecord.blank : ToolRecord :=
  { state := .empty, version := 0, tag := 0, cls := 0, loc := .unknown, nomLen := 0, nomRad := 0, lenTol := 0,
    radTol := 0, runoutLimit := 0, wearLimit := 0, plan := { features := .both, stations := 1, samples := 1 },
    lifeMode := .seconds, lifeInit := 0, lifeRem := 0, presetLen := none, presetRad := none, presetJob := none,
    presetTime := none, recalled := false, damaged := false, lastFault := .none, lastVerdict := .none }

/-! ### Record access (02) -/

/-- The operation of an edit entry (R29). -/
inductive EditOp where
  | skip | set | setIfLower | setIfHigher
  deriving DecidableEq, Repr

/-- A buffered entry: the field it addresses, its operation, and its value bytes as they were sent (R27, R30). -/
structure Entry where
  field : Nat
  op    : EditOp
  value : List Byte
  deriving DecidableEq, Repr

/-- How an edit commits (R28). -/
inductive CommitMode where
  | always
  | ifVersion (expected : BitVec 16)
  deriving DecidableEq, Repr

/-- An open edit (R27). `idleLeft` is the idle timer's seconds left (R38). -/
structure Edit where
  record    : RecNo
  tag       : Tag
  first     : Nat
  last      : Nat
  mode      : CommitMode
  pointer   : Nat
  entries   : List Entry
  truncated : Bool
  idleLeft  : Nat
  deriving DecidableEq, Repr

/-! ### Axis counters and edge capture (03) -/

/-- A sample: Z, X and A latched together (R47). -/
structure Sample where
  z : BitVec 32
  x : BitVec 32
  a : Nat
  deriving DecidableEq, Repr

/-- A station's identity: a job number and a station index (R51). -/
structure StationId where
  job   : Nat
  index : Nat
  deriving DecidableEq, Repr

/-- A latched sample with the station that was armed at its instant, if any (R47). -/
structure Latch where
  sample  : Sample
  station : Option StationId
  deriving DecidableEq, Repr

/-- The edge qualifier (R46). -/
inductive Qualifier where
  | listening
  | dwelling (latch : Latch)
  | heldActive
  | deadTime
  | guarded
  deriving DecidableEq, Repr

/-- The result of an index check (R44). -/
inductive IndexCheck where
  | unchecked | passed | slipped
  deriving DecidableEq, Repr

/-- The revolution record (R44). -/
structure Revolution where
  count  : Nat
  result : IndexCheck
  deriving DecidableEq, Repr

/-- The station buffer (R51). -/
structure StationBuffer where
  station  : Option StationId
  samples  : List Sample
  angle    : Option Nat
  glitch   : Bool
  rejected : Bool
  deriving DecidableEq, Repr

/-- What the capture unit holds (03), but for its settings. -/
structure Capture where
  z            : BitVec 32
  x            : BitVec 32
  a            : Nat
  span         : Int
  revolution   : Option Revolution
  checkPending : Bool
  qualifier    : Qualifier
  lastSample   : Option Sample
  glitchZ      : Bool
  glitchX      : Bool
  glitchA      : Bool
  buffer       : StationBuffer
  deriving DecidableEq, Repr

/-- The sensor and door pins the part follows (pin summary of 11; R42, R46, R150). -/
structure Lines where
  zPhase     : Fin 4
  xPhase     : Fin 4
  aPhase     : Fin 4
  edgeLevel  : Bool
  guardLevel : Bool
  doorLevel  : Bool
  deriving DecidableEq, Repr

/-! ### Stored settings (11) -/

/-- The sixteen stored settings, in the order of their numbers (R208). -/
inductive SettingId where
  | dwell | deadTime | angleTol | countsPerRev | zScale | xScale | edgePolarity | guardRef
  | stationTimeout | calInterval | driftLimit | autoCal | dispenseTimeout | rePreset | doorRef | loadTimeout
  deriving DecidableEq, Repr

/-- The active values of the stored settings (R55, R79, R109, R158, R175). -/
structure Settings where
  dwell           : Nat
  deadTime        : Nat
  angleTol        : Nat
  countsPerRev    : Nat
  zScale          : Nat
  xScale          : Nat
  edgePolarity    : Nat
  guardRef        : Nat
  stationTimeout  : Nat
  calInterval     : Nat
  driftLimit      : Nat
  autoCal         : Nat
  dispenseTimeout : Nat
  rePreset        : Nat
  doorRef         : Nat
  loadTimeout     : Nat
  deriving DecidableEq, Repr

/-- The parked slots of the eight measurement settings (R57). -/
structure Parked where
  dwell        : Option Nat
  deadTime     : Option Nat
  angleTol     : Option Nat
  countsPerRev : Option Nat
  zScale       : Option Nat
  xScale       : Option Nat
  edgePolarity : Option Nat
  guardRef     : Option Nat
  deriving DecidableEq, Repr

/-- The defaults of the stored settings (the settings table of 11). -/
def Settings.defaults : Settings :=
  { dwell := 20, deadTime := 2000, angleTol := 16, countsPerRev := 4096, zScale := 500, xScale := 500,
    edgePolarity := 1, guardRef := 0, stationTimeout := 10, calInterval := 8, driftLimit := 200, autoCal := 1,
    dispenseTimeout := 180, rePreset := 1, doorRef := 0, loadTimeout := 900 }

/-- Every parked slot empty (R60). -/
def Parked.empty : Parked :=
  { dwell := none, deadTime := none, angleTol := none, countsPerRev := none, zScale := none, xScale := none,
    edgePolarity := none, guardRef := none }

/-! ### Measurement jobs (04) -/

/-- The kind of a job (R63). -/
inductive JobKind where
  | preset | verify | calibrate
  deriving DecidableEq, Repr

/-- Who enqueued a job (R63). -/
inductive Origin where
  | presetterLink | supervisorLink | returned | escalation | autoCal
  deriving DecidableEq, Repr

/-- The phase of a job; the fetch order's number is present while it is FETCHING (R63). -/
inductive JobPhase where
  | waiting
  | fetching (order : Nat)
  | current
  deriving DecidableEq, Repr

/-- A job of the measurement queue (R63). -/
structure Job where
  number : Nat
  kind   : JobKind
  record : Option RecNo
  plan   : Plan
  origin : Origin
  urgent : Bool
  prior  : Option RecState
  phase  : JobPhase
  deriving DecidableEq, Repr

/-- The engine's state; `left` is the station timeout's seconds left (R74, R79). -/
inductive EnginePhase where
  | idle | offered | mounted
  | armed (left : Nat)
  | stationDone
  deriving DecidableEq, Repr

/-- The job flags (R74). -/
structure JobFlags where
  reducedAvg : Bool
  indexSlip  : Bool
  rejected   : Bool
  glitch     : Bool
  incomplete : Bool
  deriving DecidableEq, Repr

/-- No job flag set. -/
def JobFlags.clear : JobFlags :=
  { reducedAvg := false, indexSlip := false, rejected := false, glitch := false, incomplete := false }

/-- The result of one complete station: its Z and X values in the order they were accepted, and its angle (R54, R74). -/
structure StationResult where
  zs    : List (BitVec 32)
  xs    : List (BitVec 32)
  angle : Option Nat
  deriving DecidableEq, Repr

/-- The engine with its job context (R74). -/
structure Engine where
  phase       : EnginePhase
  nextStation : Nat
  results     : List StationResult
  flags       : JobFlags
  deriving DecidableEq, Repr

/-- The engine IDLE with no job context (R74). -/
def Engine.idle : Engine := { phase := .idle, nextStation := 0, results := [], flags := JobFlags.clear }

/-- The status of a result log entry (R85). -/
inductive Status where
  | good | calStale | outOfRange | runout | outTol | wearLimit | noEdge | aborted | fetchFailed | calAccepted | calDrift
  deriving DecidableEq, Repr

/-- A result log entry (R85). -/
structure LogEntry where
  job      : Nat
  kind     : JobKind
  record   : Option RecNo
  tag      : Tag
  status   : Status
  flags    : JobFlags
  stations : Nat
  length   : Option Nat
  radius   : Option Nat
  runout   : Option Nat
  hallTime : Option Nat
  deriving DecidableEq, Repr

/-! ### Reference and calibration (06) -/

/-- The last outcome of a calibration (R108). -/
inductive CalOutcome where
  | none | accepted | driftRejected
  deriving DecidableEq, Repr

/-- The reference record (R108). The calibration plan's features are always BOTH. -/
structure Reference where
  gaugeTag    : Tag
  gaugeLen    : Nat
  gaugeRad    : Nat
  calStations : Nat
  calSamples  : Nat
  present     : Bool
  zRef        : Int
  xRef        : Int
  lRef        : Nat
  rRef        : Nat
  calTime     : Option Nat
  validUntil  : Option Nat
  timePending : Bool
  pendingAge  : Nat
  lastOutcome : CalOutcome
  driftZ      : Option Int
  driftX      : Option Int
  deriving DecidableEq, Repr

/-- The reference record after a cold start (R121). -/
def Reference.cold : Reference :=
  { gaugeTag := 0, gaugeLen := 0, gaugeRad := 0, calStations := 4, calSamples := 4, present := false, zRef := 0,
    xRef := 0, lRef := 0, rRef := 0, calTime := none, validUntil := none, timePending := false, pendingAge := 0,
    lastOutcome := .none, driftZ := none, driftX := none }

/-! ### Tool issue (07) -/

/-- The phase of a ticket; the assigned record is present while it is DISPENSING, and FAILED carries the one
failure reason NO_RETRY_LEFT (R123). -/
inductive TicketPhase where
  | waiting
  | dispensing (record : RecNo)
  | failed
  deriving DecidableEq, Repr

/-- A ticket of the issue queue (R123). `urgent` is the priority URGENT. -/
structure Ticket where
  number        : Nat
  link          : LinkId
  machine       : Nat
  machinePocket : Nat
  cls           : Nat
  minLife       : Nat
  urgent        : Bool
  phase         : TicketPhase
  attempts      : Nat
  escalated     : Option RecNo
  starved       : Bool
  deriving DecidableEq, Repr

/-! ### Crib orders (08) -/

/-- The kind of an order with its linked ticket or job (R145). -/
inductive OrderLink where
  | cell (ticket : Nat)
  | presetter (job : Nat)
  deriving DecidableEq, Repr

/-- The phase of an order; `left` is the dispense timer's seconds left (R145). -/
inductive OrderPhase where
  | released
  | fetched (left : Nat)
  deriving DecidableEq, Repr

/-- An order of the crib order list (R145). -/
structure Order where
  number : Nat
  link   : OrderLink
  record : RecNo
  pocket : Fin 240
  phase  : OrderPhase
  deriving DecidableEq, Repr

/-! ### Handoff (09) -/

/-- The copy of a record's numbers that a handoff entry carries (R167). -/
structure Snapshot where
  tag        : Tag
  cls        : Nat
  presetLen  : Option Nat
  presetRad  : Option Nat
  lifeRem    : Nat
  lifeMode   : LifeMode
  presetJob  : Option Nat
  presetTime : Option Nat
  version    : BitVec 16
  deriving DecidableEq, Repr

/-- The phase of a handoff entry; `left` is the load timer's seconds left (R167). -/
inductive HandoffPhase where
  | staged
  | offered (left : Nat)
  deriving DecidableEq, Repr

/-- An entry of the handoff table (R167). -/
structure Handoff where
  number        : Nat
  ticket        : Nat
  link          : LinkId
  machine       : Nat
  machinePocket : Nat
  record        : RecNo
  snapshot      : Snapshot
  phase         : HandoffPhase
  deriving DecidableEq, Repr

/-! ### Station links (11) -/

/-- The role of a link (R200). -/
inductive Role where
  | presetter | crib | cell | supervisor | disabled
  deriving DecidableEq, Repr

/-- The bit rate of a link (R201). -/
inductive Rate where
  | r9600 | r19200 | r38400 | r115200
  deriving DecidableEq, Repr

/-- The receiver of a link; in BODY it holds the length n and the body and check bytes so far (R205). -/
inductive Receiver where
  | hunting
  | length
  | body (n : Nat) (got : List Byte)
  deriving DecidableEq, Repr

/-- A request frame whose length and check were good (R203). -/
structure Frame where
  function : Byte
  tagByte  : Byte
  params   : List Byte
  deriving DecidableEq, Repr

/-- The outcome codes (R207). -/
inductive ReplyCode where
  | ok | accepted | parked | okClamped | committed | committedTruncated | none
  | noSuchRecord | noSuchTicket | noSuchOrder | noSuchHandoff | notCurrent | notFetched | notOffered | notYours
  | wrongState | badField | badStation | outOfRange | duplicate | queueFull | listFull | tagInUse | tagMismatch
  | pocketInUse | recalled | staleVersion | fieldRefused | noEdit | busy | roleRefused | badFunction
  deriving DecidableEq, Repr

/-- An answer as the transmitter sends it: function code, echoed tag byte, outcome code, results (R203). -/
structure Answer where
  function : Byte
  tagByte  : Byte
  code     : ReplyCode
  results  : List Byte
  deriving DecidableEq, Repr

/-- What one link holds (R27, R186, R200, R201, R205, R206, R211). `spaceChars` counts the character times of an
unbroken space on the receive line, up to 2 (R194). -/
structure Link where
  role       : Role
  rate       : Rate
  receiver   : Receiver
  ignoring   : Bool
  spaceChars : Nat
  waiting    : Option Frame
  tx         : Option Answer
  edit       : Option Edit
  mask       : List Bool
  attention  : Bool
  deriving DecidableEq, Repr

/-- How many conditions a role has (R187 to R190, R193). -/
def Role.conditionCount : Role → Nat
  | .cell => 4
  | .presetter => 5
  | .crib => 2
  | .supervisor => 7
  | .disabled => 0

/-- A link as a start leaves it before its attention line is judged (R186, R205, R206, R213). -/
def Link.started (role : Role) (rate : Rate) : Link :=
  { role := role, rate := rate, receiver := .hunting, ignoring := false, spaceChars := 0, waiting := none,
    tx := none, edit := none, mask := List.replicate role.conditionCount true, attention := false }

/-! ### The part -/

/-- The hall clock (R197). -/
structure HallClock where
  count : Nat
  set   : Bool
  deriving DecidableEq, Repr

/-- The state of the part. `pending` is the model's own: the commands waiting, first in first out. -/
structure State where
  pending       : List Instr
  mainUp        : Bool
  lossMark      : Bool
  lines         : Lines
  links         : Vector Link 4
  records       : Vector ToolRecord 512
  recalls       : List Tag
  capture       : Capture
  settings      : Settings
  parked        : Parked
  jobs          : List Job
  nextJob       : Nat
  engine        : Engine
  log           : List LogEntry
  unread        : Bool
  reference     : Reference
  tickets       : List Ticket
  nextTicket    : Nat
  orders        : List Order
  nextOrder     : Nat
  handoffs      : List Handoff
  nextHandoff   : Nat
  hall          : HallClock
  retentionLost : Bool
  deriving DecidableEq, Repr

/-- The reasons a step can stop with a fault: none. The spec gives every command an effect or an answer in every
state, so no meaning raises one. Safe: nothing is cut off. -/
inductive Fault where
  deriving DecidableEq, Repr

/-- The reasons a command can have no meaning. -/
inductive Refusal where
  /-- Raised by an arm of `exec` whose command has no meaning yet; no arm of this model raises it. Safe: the
  machine stops where the part would go on. -/
  | notModelled (mnemonic : String)
  deriving DecidableEq, Repr

/-- An empty station buffer with no identity (R51). -/
def StationBuffer.empty : StationBuffer :=
  { station := none, samples := [], angle := none, glitch := false, rejected := false }

/-- The capture unit after a start, before the qualifier takes its state from the lines (R41, R43, R44, R51, R61). -/
def Capture.started : Capture :=
  { z := 0, x := 0, a := 0, span := 0, revolution := none, checkPending := true, qualifier := .listening,
    lastSample := none, glitchZ := false, glitchX := false, glitchA := false, buffer := StationBuffer.empty }

/-- The part as a cold start leaves it (R213), with S0 strapped PRESETTER, S1 CRIB, S2 CELL and S3 SUPERVISOR, the
rate straps low and the three lines low: DESIGN CHOICE, unsafe (log 1). CAL_DUE is pending on S0 and S3, and
RETENTION_LOST and TIME_UNSET on S3 (R190), so their attention lines are driven. -/
def State.reset : State :=
  { pending := [], mainUp := true, lossMark := false,
    lines := { zPhase := 0, xPhase := 0, aPhase := 0, edgeLevel := false, guardLevel := false, doorLevel := false },
    links := #v[{ Link.started .presetter .r9600 with attention := true }, Link.started .crib .r9600,
      Link.started .cell .r9600, { Link.started .supervisor .r9600 with attention := true }],
    records := Vector.replicate 512 ToolRecord.blank, recalls := [], capture := Capture.started,
    settings := Settings.defaults, parked := Parked.empty, jobs := [], nextJob := 1, engine := Engine.idle,
    log := [], unread := false, reference := Reference.cold, tickets := [], nextTicket := 1, orders := [],
    nextOrder := 1, handoffs := [], nextHandoff := 1, hall := { count := 0, set := false }, retentionLost := true }

end Sys2Proof.Machine
end

