-- ==== Sys2Proof/Machine/Operands.lean ====
section
/-! DEFINITION. Operand forms: how values are brought into range (R4) and how record fields and other items stand in
frames (R2, R3, R203). -/

namespace Sys2Proof.Machine

/-! ### Ranges (R4) -/

/-- A number brought to the nearer end of its range (R4). -/
def clamp (lo hi v : Nat) : Nat := max lo (min hi v)

/-- A signed length brought into 0..`hi`: a negative length becomes 0 (R4). -/
def clampLength (hi : Nat) (v : Int) : Nat := min hi v.toNat

/-- The greatest tool length (00_scope, R2). -/
def maxLength : Nat := 9999999

/-- The greatest tool radius (00_scope, R2). -/
def maxRadius : Nat := 1999999

/-- The greatest life (00_scope, R2). -/
def maxLife : Nat := 16777215

/-- The code of each feature set (R3). -/
def Features.code : Features → Nat
  | .length => 1
  | .radius => 2
  | .both => 3

/-- Features code 0 becomes LENGTH, and values above 3 become BOTH (R4). -/
def rangeFeatures (v : Nat) : Features :=
  if v ≤ 1 then .length else if v = 2 then .radius else .both

/-- The largest of 1, 2, 4 and 8 that does not exceed the value, or 1 (R4). -/
def rangeSamples (v : Nat) : Nat :=
  if 8 ≤ v then 8 else if 4 ≤ v then 4 else if 2 ≤ v then 2 else 1

/-- A plan's three values brought into range (R4). -/
def rangePlan (features stations samples : Nat) : Plan :=
  { features := rangeFeatures features, stations := clamp 1 8 stations, samples := rangeSamples samples }

/-- Whether ranging a plan changed one of its values (R4). -/
def planClamped (features stations samples : Nat) : Bool :=
  let p := rangePlan features stations samples
  decide (p.features.code ≠ features) || decide (p.stations ≠ stations) || decide (p.samples ≠ samples)

/-- The code of each life mode (R3). -/
def LifeMode.code : LifeMode → Nat
  | .seconds => 0
  | .parts => 1

/-- Life mode values above 1 become PARTS (R4). -/
def rangeLifeMode (v : Nat) : LifeMode := if v = 0 then .seconds else .parts

/-- Whether the features include LENGTH. -/
def Features.hasLength : Features → Bool
  | .length => true
  | .radius => false
  | .both => true

/-- Whether the features include RADIUS. -/
def Features.hasRadius : Features → Bool
  | .length => false
  | .radius => true
  | .both => true

/-! ### Codes (R3, R63, R74, R85, R108, R123, R145, R167, R207) -/

/-- R3 -/
def RecState.code : RecState → Nat
  | .empty => 0
  | .presetDue => 1
  | .measuring => 2
  | .ready => 3
  | .allocated => 4
  | .inTransit => 5
  | .inMachine => 6
  | .returning => 7
  | .quarantine => 8
  | .worn => 9
  | .check => 10

/-- R3 -/
def Location.code : Location → Nat
  | .crib _ => 0
  | .presetter => 1
  | .transit => 2
  | .machine _ => 3
  | .unknown => 4

/-- R3 -/
def LastFault.code : LastFault → Nat
  | .none => 0
  | .pocketEmpty => 1
  | .jammed => 2
  | .orderTimeout => 3
  | .loadTimeout => 4
  | .tagLost => 5

/-- R3 -/
def Verdict.code : Verdict → Nat
  | .none => 0
  | .good => 1
  | .calStale => 2
  | .outOfRange => 3
  | .runout => 4
  | .outTol => 5
  | .wearLimit => 6

/-- R63 -/
def JobKind.code : JobKind → Nat
  | .preset => 0
  | .verify => 1
  | .calibrate => 2

/-- R63 -/
def Origin.code : Origin → Nat
  | .presetterLink => 0
  | .supervisorLink => 1
  | .returned => 2
  | .escalation => 3
  | .autoCal => 4

/-- R63 -/
def JobPhase.code : JobPhase → Nat
  | .waiting => 0
  | .fetching _ => 1
  | .current => 2

/-- R74 -/
def EnginePhase.code : EnginePhase → Nat
  | .idle => 0
  | .offered => 1
  | .mounted => 2
  | .armed _ => 3
  | .stationDone => 4

/-- R85 -/
def Status.code : Status → Nat
  | .good => 1
  | .calStale => 2
  | .outOfRange => 3
  | .runout => 4
  | .outTol => 5
  | .wearLimit => 6
  | .noEdge => 7
  | .aborted => 8
  | .fetchFailed => 9
  | .calAccepted => 10
  | .calDrift => 11

/-- R108 -/
def CalOutcome.code : CalOutcome → Nat
  | .none => 0
  | .accepted => 1
  | .driftRejected => 2

/-- R123 -/
def TicketPhase.code : TicketPhase → Nat
  | .waiting => 0
  | .dispensing _ => 1
  | .failed => 2

/-- R145 -/
def OrderLink.code : OrderLink → Nat
  | .cell _ => 0
  | .presetter _ => 1

/-- R145 -/
def OrderPhase.code : OrderPhase → Nat
  | .released => 0
  | .fetched _ => 1

/-- R167 -/
def HandoffPhase.code : HandoffPhase → Nat
  | .staged => 0
  | .offered _ => 1

/-- R46 -/
def Qualifier.code : Qualifier → Nat
  | .listening => 0
  | .dwelling _ => 1
  | .heldActive => 2
  | .deadTime => 3
  | .guarded => 4

/-- R44 -/
def IndexCheck.code : IndexCheck → Nat
  | .unchecked => 0
  | .passed => 1
  | .slipped => 2

/-- R207 -/
def ReplyCode.code : ReplyCode → Nat
  | .ok => 0
  | .accepted => 1
  | .parked => 2
  | .okClamped => 3
  | .committed => 4
  | .committedTruncated => 5
  | .none => 6
  | .noSuchRecord => 7
  | .noSuchTicket => 8
  | .noSuchOrder => 9
  | .noSuchHandoff => 10
  | .notCurrent => 11
  | .notFetched => 12
  | .notOffered => 13
  | .notYours => 14
  | .wrongState => 15
  | .badField => 16
  | .badStation => 17
  | .outOfRange => 18
  | .duplicate => 19
  | .queueFull => 20
  | .listFull => 21
  | .tagInUse => 22
  | .tagMismatch => 23
  | .pocketInUse => 24
  | .recalled => 25
  | .staleVersion => 26
  | .fieldRefused => 27
  | .noEdit => 28
  | .busy => 29
  | .roleRefused => 30
  | .badFunction => 31

/-- Codes 7 to 31 report a refusal (R207). -/
def ReplyCode.isRefusal (c : ReplyCode) : Bool := decide (7 ≤ c.code)

/-! ### Items of a frame (R203) -/

/-- A number of one byte. -/
def b1 (v : Nat) : List Byte := leBytes 1 v

/-- A number of two bytes. -/
def b2 (v : Nat) : List Byte := leBytes 2 v

/-- A number of three bytes. -/
def b3 (v : Nat) : List Byte := leBytes 3 v

/-- A number of four bytes. -/
def b4 (v : Nat) : List Byte := leBytes 4 v

/-- A mark, flag or indicator: 1 set, 0 clear (log 19). -/
def bFlag (b : Bool) : List Byte := b1 (if b then 1 else 0)

/-- A tag. -/
def bTag (t : Tag) : List Byte := leBytes 8 t.toNat

/-- A signed count or length of four bytes. -/
def bCount (v : Int) : List Byte := leBytesInt 4 v

/-- An optional number of `n` bytes: its present-marker, then its bytes, 0 when it is absent (R2, R203). -/
def bOpt (n : Nat) : Option Nat → List Byte
  | none => b1 0 ++ leBytes n 0
  | some v => b1 1 ++ leBytes n v

/-- An optional signed number of `n` bytes. -/
def bOptInt (n : Nat) : Option Int → List Byte
  | none => b1 0 ++ leBytes n 0
  | some v => b1 1 ++ leBytesInt n v

/-- An optional record number (R203). -/
def bOptRec (r : Option RecNo) : List Byte := bOpt 2 (r.map (·.val))

/-- A plan: features code, station count, samples per station (R2). -/
def bPlan (p : Plan) : List Byte := b1 p.features.code ++ b1 p.stations ++ b1 p.samples

/-- A machine place: link, machine, machine pocket (R2). -/
def bPlace (p : Place) : List Byte := b1 p.link.val ++ b1 p.machine ++ b1 p.pocket

/-! ### Record fields (R2) -/

/-- The crib pocket field: present exactly at CRIB (R6). -/
def Location.pocket? : Location → Option (Fin 240)
  | .crib p => some p
  | .presetter => none
  | .transit => none
  | .machine _ => none
  | .unknown => none

/-- The machine place field: present exactly at MACHINE (R6). -/
def Location.place? : Location → Option Place
  | .machine p => some p
  | .crib _ => none
  | .presetter => none
  | .transit => none
  | .unknown => none

/-- The flags byte: RECALLED in bit 0, DAMAGED in bit 1 (R2). -/
def recordFlags (r : ToolRecord) : Nat := (if r.recalled then 1 else 0) + (if r.damaged then 2 else 0)

/-- The bytes of one record field in an answer (R2). -/
def fieldBytes (r : ToolRecord) : Nat → List Byte
  | 0 => b1 r.state.code
  | 1 => b2 r.version.toNat
  | 2 => bTag r.tag
  | 3 => b2 r.cls
  | 4 => b1 r.loc.code
  | 5 => bOpt 1 (r.loc.pocket?.map (·.val))
  | 6 =>
    match r.loc.place? with
    | none => b1 0 ++ leBytes 3 0
    | some p => b1 1 ++ bPlace p
  | 7 => b4 r.nomLen
  | 8 => b4 r.nomRad
  | 9 => b2 r.lenTol
  | 10 => b2 r.radTol
  | 11 => b2 r.runoutLimit
  | 12 => b2 r.wearLimit
  | 13 => bPlan r.plan
  | 14 => b1 r.lifeMode.code
  | 15 => b3 r.lifeInit
  | 16 => b3 r.lifeRem
  | 17 => bOpt 4 r.presetLen
  | 18 => bOpt 4 r.presetRad
  | 19 => bOpt 2 r.presetJob
  | 20 => bOpt 4 r.presetTime
  | 21 => b1 (recordFlags r)
  | 22 => b1 r.lastFault.code
  | 23 => b1 r.lastVerdict.code
  | _ => []

/-- Whether a record field is optional (R2). -/
def fieldOptional (f : Nat) : Bool := f == 5 || f == 6 || f == 17 || f == 18 || f == 19 || f == 20

/-- The bytes of a record field in an edit entry, the present-marker of an optional field included (R2, R29). -/
def fieldWidth : Nat → Nat
  | 0 => 1
  | 1 => 2
  | 2 => 8
  | 3 => 2
  | 4 => 1
  | 5 => 2
  | 6 => 4
  | 7 => 4
  | 8 => 4
  | 9 => 2
  | 10 => 2
  | 11 => 2
  | 12 => 2
  | 13 => 3
  | 14 => 1
  | 15 => 3
  | 16 => 3
  | 17 => 5
  | 18 => 5
  | 19 => 3
  | 20 => 5
  | 21 => 1
  | 22 => 1
  | 23 => 1
  | _ => 0

end Sys2Proof.Machine
end

