-- ==== Sys2Proof/Machine/Flags.lean ====
section
/-! DEFINITION. Flag bytes: the job flags of R74 and the station flags of R51. -/

namespace Sys2Proof.Machine

/-- The value of one flag at a bit. -/
def bitAt (b : Bool) (k : Nat) : Nat := if b then 2 ^ k else 0

/-- The job flags byte: REDUCED_AVG bit 0, INDEX_SLIP bit 1, REJECTED_SAMPLES bit 2, ENCODER_GLITCH bit 3,
INCOMPLETE bit 4, bits 5 to 7 zero (R74). -/
def JobFlags.code (f : JobFlags) : Nat :=
  bitAt f.reducedAvg 0 + bitAt f.indexSlip 1 + bitAt f.rejected 2 + bitAt f.glitch 3 + bitAt f.incomplete 4

/-- The station flags byte: REJECTED_SAMPLES bit 2, ENCODER_GLITCH bit 3, the other bits zero (R51). -/
def StationBuffer.flagsCode (b : StationBuffer) : Nat := bitAt b.rejected 2 + bitAt b.glitch 3

/-- The station's flags, where set, added to the job flags (R80, R81). -/
def JobFlags.addStation (f : JobFlags) (b : StationBuffer) : JobFlags :=
  { f with rejected := f.rejected || b.rejected, glitch := f.glitch || b.glitch }

end Sys2Proof.Machine
end

