-- ==== Sys2Proof/Machine/Ops.lean ====
section
/-! DEFINITION. The named operations over the state: record changes with their version, numbering, queue sections,
entries by number, links, staleness, and the form of an answer. -/

namespace Sys2Proof.Machine

/-! ### Answers -/

/-- What an owning rule answers: an outcome code and its results (R207). -/
structure Reply where
  code    : ReplyCode
  results : List Byte
  deriving DecidableEq, Repr

/-- A reply without results (R207). -/
def reply (code : ReplyCode) : Reply := { code := code, results := [] }

/-- OK with results. -/
def okWith (results : List Byte) : Reply := { code := .ok, results := results }

/-- OK, or OK_CLAMPED when a value was clamped (R4). -/
def okOrClamped (clamped : Bool) (results : List Byte) : Reply :=
  { code := if clamped then .okClamped else .ok, results := results }

/-- A refusal, or a question's answer, that changes nothing (R12, R207). -/
def State.answering (s : State) (r : Reply) : State × Reply := (s, r)

/-! ### Records -/

/-- A record by its number. -/
def State.tool (s : State) (n : RecNo) : ToolRecord := s.records[n]

/-- The table with one record replaced. -/
def State.setTool (s : State) (n : RecNo) (r : ToolRecord) : State := { s with records := s.records.set n r }

/-- One whole change at a record: when a field other than the version changed, the version increases by one and
wraps from 65,535 to 0; otherwise the record stays as it was (R11). -/
def ToolRecord.change (old new : ToolRecord) : ToolRecord :=
  if { new with version := old.version } = old then old else { new with version := old.version + 1 }

/-- One whole change at the record of a number (R11, R12). -/
def State.changeTool (s : State) (n : RecNo) (f : ToolRecord → ToolRecord) : State :=
  s.setTool n ((s.tool n).change (f (s.tool n)))

/-- What several steps of one whole change have done to a record, counted as the one change it is: the version is one
more than before the change when another field differs, and as before it otherwise (R11, R12; log 14). -/
def State.asOneChange (after before : State) (n : RecNo) : State :=
  after.setTool n ((before.tool n).change (after.tool n))

/-- The record number a request carries, when it lies in 0..511 (R1). -/
def recNo? (v : BitVec 16) : Option RecNo := if h : v.toNat < 512 then some ⟨v.toNat, h⟩ else none

/-- Records numbered from `i` on. -/
def numbered : Nat → List ToolRecord → List (RecNo × ToolRecord)
  | _, [] => []
  | i, r :: rs => if h : i < 512 then (⟨i, h⟩, r) :: numbered (i + 1) rs else []

/-- The table as its numbers and records, in number order. -/
def State.table (s : State) : List (RecNo × ToolRecord) := numbered 0 s.records.toList

/-- The lowest record number at which a test holds. -/
def State.lowest? (s : State) (p : RecNo → ToolRecord → Bool) : Option RecNo :=
  (s.table.find? (fun e => p e.1 e.2)).map (·.1)

/-- The non-EMPTY record carrying a tag (R1). -/
def State.holder? (s : State) (tag : Tag) : Option RecNo :=
  s.lowest? (fun _ r => r.state != .empty && r.tag == tag)

/-- Whether a record stands at CRIB. -/
def Location.isCrib (l : Location) : Bool := l.pocket?.isSome

/-- Whether another record holds a crib pocket (R6). -/
def State.pocketHeld (s : State) (n : RecNo) (p : Fin 240) : Bool :=
  (s.lowest? (fun m r => m != n && r.loc.pocket? == some p)).isSome

/-- The crib pocket a request carries, when it lies in 0..239 (R6). -/
def pocket? (v : Nat) : Option (Fin 240) := if h : v < 240 then some ⟨v, h⟩ else none

/-- While RECALLED is set, a change into PRESET_DUE or READY goes into QUARANTINE instead (R21). -/
def recallGate (recalled : Bool) (st : RecState) : RecState :=
  if recalled && (st == .presetDue || st == .ready) then .quarantine else st

/-- The state, version and such of a record after a change, as many answers carry them: state, then version. -/
def stateVersion (r : ToolRecord) : List Byte := b1 r.state.code ++ b2 r.version.toNat

/-! ### Numbering (R64, R124, R146, R168) -/

/-- The number after a number: from 65,535 on to 1. -/
def nextNumber (n : Nat) : Nat := if 65535 ≤ n then 1 else n + 1

/-- The first number from `n` on that is not held; `fuel` bounds the numbers passed over. -/
def freshNumber : Nat → Nat → List Nat → Nat
  | 0, n, _ => n
  | fuel + 1, n, held => if held.contains n then freshNumber fuel (nextNumber n) held else n

/-- The number an entry takes, held numbers passed over. -/
def takeNumber (next : Nat) (held : List Nat) : Nat := freshNumber held.length next held

/-! ### Queue sections (00_scope, R62, R122) -/

/-- An entry placed at the tail of its section. -/
def placeTail {α : Type} (urgent : α → Bool) (e : α) (q : List α) : List α :=
  if urgent e then q.filter urgent ++ e :: q.filter (fun x => !urgent x) else q ++ [e]

/-- An entry placed at the head of its section. -/
def placeHead {α : Type} (urgent : α → Bool) (e : α) (q : List α) : List α :=
  if urgent e then e :: q else q.filter urgent ++ e :: q.filter (fun x => !urgent x)

/-! ### Jobs -/

/-- The job of a number. -/
def State.job? (s : State) (n : Nat) : Option Job := s.jobs.find? (fun j => j.number == n)

/-- The job that names a record (R62: at most one). -/
def State.jobOf? (s : State) (r : RecNo) : Option Job := s.jobs.find? (fun j => j.record == some r)

/-- The engine's current job (R63: at most one). -/
def State.currentJob? (s : State) : Option Job := s.jobs.find? (fun j => j.phase == .current)

/-- A job changed in its place. -/
def State.changeJob (s : State) (n : Nat) (f : Job → Job) : State :=
  { s with jobs := s.jobs.map (fun j => if j.number == n then f j else j) }

/-- A job taken out of the queue. -/
def State.withoutJob (s : State) (n : Nat) : State := { s with jobs := s.jobs.filter (fun j => j.number != n) }

/-- Whether a job is FETCHING. -/
def JobPhase.isFetching : JobPhase → Bool
  | .waiting => false
  | .fetching _ => true
  | .current => false

/-- How many jobs are FETCHING (R71). -/
def State.fetchingCount (s : State) : Nat := s.jobs.countP (fun j => j.phase.isFetching)

/-- A CALIBRATE job is in the queue, in any phase (R65, R110, R114). -/
def State.hasCalibrate (s : State) : Bool := s.jobs.any (fun j => j.kind == .calibrate)

/-- The location of the record a job names. -/
def State.jobAtCrib (s : State) (j : Job) : Bool :=
  match j.record with
  | none => false
  | some r => (s.tool r).loc.isCrib

/-- A job is at the presetter when its record is, or when it is a CALIBRATE job (R75). -/
def State.jobAtPresetter (s : State) (j : Job) : Bool :=
  match j.record with
  | none => j.kind == .calibrate
  | some r => (s.tool r).loc == .presetter

/-- A job holds a fetch claim while it is WAITING with its record at CRIB (R71). -/
def State.holdsClaim (s : State) (j : Job) : Bool := j.phase == .waiting && s.jobAtCrib j

/-- Whether the engine is ARMED. -/
def EnginePhase.isArmed : EnginePhase → Bool
  | .armed _ => true
  | .idle => false
  | .offered => false
  | .mounted => false
  | .stationDone => false

/-! ### Tickets, orders, handoffs -/

/-- The ticket of a number. -/
def State.ticket? (s : State) (n : Nat) : Option Ticket := s.tickets.find? (fun t => t.number == n)

/-- A ticket changed in its place. -/
def State.changeTicket (s : State) (n : Nat) (f : Ticket → Ticket) : State :=
  { s with tickets := s.tickets.map (fun t => if t.number == n then f t else t) }

/-- A ticket taken out of the queue. -/
def State.withoutTicket (s : State) (n : Nat) : State :=
  { s with tickets := s.tickets.filter (fun t => t.number != n) }

/-- A ticket, changed, moved to the head of its section (R20, R141). -/
def State.ticketToHead (s : State) (n : Nat) (f : Ticket → Ticket) : State :=
  match s.ticket? n with
  | none => s
  | some t => { s with tickets := placeHead (·.urgent) (f t) (s.tickets.filter (fun u => u.number != n)) }

/-- Whether a ticket is DISPENSING. -/
def TicketPhase.isDispensing : TicketPhase → Bool
  | .waiting => false
  | .dispensing _ => true
  | .failed => false

/-- The order of a number. -/
def State.order? (s : State) (n : Nat) : Option Order := s.orders.find? (fun o => o.number == n)

/-- The order that names a record (R144: at most one). -/
def State.orderOf? (s : State) (r : RecNo) : Option Order := s.orders.find? (fun o => o.record == r)

/-- An order taken out of the list (R144). -/
def State.withoutOrder (s : State) (n : Nat) : State := { s with orders := s.orders.filter (fun o => o.number != n) }

/-- Slots of the crib order list that are free (R144). -/
def State.freeSlots (s : State) : Nat := 16 - s.orders.length

/-- An order made at the tail of the list, RELEASED, with the next number (R144, R146). -/
def State.makeOrder (s : State) (link : OrderLink) (r : RecNo) (p : Fin 240) : State × Nat :=
  let n := takeNumber s.nextOrder (s.orders.map (·.number))
  ({ s with orders := s.orders ++ [{ number := n, link := link, record := r, pocket := p, phase := .released }],
            nextOrder := nextNumber n }, n)

/-- The handoff entry of a number. -/
def State.handoff? (s : State) (n : Nat) : Option Handoff := s.handoffs.find? (fun h => h.number == n)

/-- A handoff entry taken out of the table (R177). -/
def State.withoutHandoff (s : State) (n : Nat) : State :=
  { s with handoffs := s.handoffs.filter (fun h => h.number != n) }

/-! ### Links -/

/-- A link by its number. -/
def State.link (s : State) (l : LinkId) : Link := s.links[l]

/-- One link changed. -/
def State.changeLink (s : State) (l : LinkId) (f : Link → Link) : State :=
  { s with links := s.links.set l (f (s.link l)) }

/-! ### Time, reference and lines -/

/-- The hall time, absent while it is unset (R197). -/
def State.hallTime? (s : State) : Option Nat := if s.hall.set then some s.hall.count else none

/-- Whether the reference is stale at this moment (R113). -/
def State.stale (s : State) : Bool :=
  !s.reference.present ||
    match s.hallTime?, s.reference.validUntil with
    | some t, some v => decide (v ≤ t)
    | none, _ => true
    | some _, none => true

/-- The reference's calibration plan, features BOTH (R108). -/
def Reference.plan (r : Reference) : Plan :=
  { features := .both, stations := r.calStations, samples := r.calSamples }

/-- The edge line is active when its level equals the edge polarity setting (R46). -/
def State.edgeIsActive (s : State) : Bool := s.lines.edgeLevel == (s.settings.edgePolarity == 1)

/-- The guard line is open when its level differs from the guard reference level (R46). -/
def State.guardIsOpen (s : State) : Bool := s.lines.guardLevel != (s.settings.guardRef == 1)

/-- The door is open when the line differs from the door reference level (R150). -/
def State.doorIsOpen (s : State) : Bool := s.lines.doorLevel != (s.settings.doorRef == 1)

end Sys2Proof.Machine
end

