-- ==== Sys2Proof/Machine/Attention.lean ====
section
/-! DEFINITION. Which conditions are pending on a link, with their parameters (R186 to R191), and the attention lines
judged from them (R194, R195). -/

namespace Sys2Proof.Machine

/-- A pending condition: its code within its role, and its parameter (R186, R192). -/
structure Condition where
  code  : Nat
  param : Option Nat
  deriving DecidableEq, Repr

/-- A condition pending while something qualifies, with that as its parameter. -/
def condOf (code : Nat) (which : Option Nat) : List Condition :=
  match which with
  | none => []
  | some n => [{ code := code, param := some n }]

/-- A condition pending while a test holds, with a parameter that the state behind it names. -/
def condWith (code : Nat) (on : Bool) (param : Option Nat) : List Condition :=
  if on then [{ code := code, param := param }] else []

/-- A condition without parameter, pending while a test holds. -/
def condIf (code : Nat) (on : Bool) : List Condition := condWith code on none

/-- A record is IN_MACHINE with its machine place on a link. -/
def ToolRecord.inMachineOn (r : ToolRecord) (l : LinkId) : Bool :=
  r.state == .inMachine && r.loc.place?.map (·.link) == some l

/-- The number of the lowest record at which a test holds. -/
def State.lowestNumber? (s : State) (p : RecNo → ToolRecord → Bool) : Option Nat := (s.lowest? p).map (·.val)

/-- The conditions of a CELL link (R187). -/
def State.cellConditions (s : State) (l : LinkId) : List Condition :=
  condOf 1 (s.lowestNumber? fun n r => r.recalled &&
      (r.inMachineOn l || s.handoffs.any (fun h => h.record == n && h.link == l))) ++
  condOf 2 (s.lowestNumber? fun _ r => r.inMachineOn l && r.lifeRem == 0) ++
  condOf 3 ((s.tickets.find? (fun t => t.link == l && t.phase == .failed)).map (·.number)) ++
  condOf 4 ((s.handoffs.find? (fun h => h.link == l && h.phase == .staged)).map (·.number))

/-- The conditions of the PRESETTER link (R188). -/
def State.presetterConditions (s : State) : List Condition :=
  condIf 1 s.stale ++
  condWith 2 (s.engine.phase == .stationDone) (s.currentJob?.map (·.number)) ++
  condWith 3 s.unread (s.log.getLast?.map (·.job)) ++
  condWith 4 (s.engine.phase == .offered) (s.currentJob?.map (·.number)) ++
  condIf 5 s.guardIsOpen

/-- The oldest RELEASED order (R149). -/
def State.oldestReleased? (s : State) : Option Order := s.orders.find? (fun o => o.phase == .released)

/-- The conditions of the CRIB link (R189). -/
def State.cribConditions (s : State) : List Condition :=
  condOf 1 (if s.doorIsOpen then none else s.oldestReleased?.map (·.number)) ++ condIf 2 s.doorIsOpen

/-- The conditions of a SUPERVISOR link (R190). -/
def State.supervisorConditions (s : State) : List Condition :=
  condIf 1 s.retentionLost ++
  condOf 2 (s.lowestNumber? fun _ r => r.state == .check) ++
  condOf 3 (s.lowestNumber? fun _ r => r.state == .quarantine) ++
  condIf 4 s.stale ++
  condIf 5 (s.reference.lastOutcome == .driftRejected) ++
  condOf 6 (s.lowestNumber? fun _ r => r.state == .worn) ++
  condIf 7 (!s.hall.set)

/-- The conditions pending on a link, highest first (R186 to R191). -/
def State.conditions (s : State) (l : LinkId) : List Condition :=
  match (s.link l).role with
  | .cell => s.cellConditions l
  | .presetter => s.presetterConditions
  | .crib => s.cribConditions
  | .supervisor => s.supervisorConditions
  | .disabled => []

/-- Whether a receiver holds a partial frame of two or more bytes (R194). -/
def Receiver.inBody : Receiver → Bool
  | .hunting => false
  | .length => false
  | .body _ _ => true

/-- A link is quiet when it holds no partial frame of two or more bytes, no waiting frame and no answer being sent,
and no break has reached its second character time (R194). -/
def Link.quiet (k : Link) : Bool :=
  !k.receiver.inBody && k.waiting.isNone && k.tx.isNone && decide (k.spaceChars < 2)

/-- The attention line a link must show: driven while it is quiet and a condition is pending and enabled (R195). -/
def State.judgedLine (s : State) (l : LinkId) : Bool :=
  (s.link l).quiet && (s.conditions l).any (fun c => (s.link l).mask.getD (c.code - 1) false)

/-- A link with its attention line as judged. -/
def State.judgedLink (s : State) (l : LinkId) : Link := { s.link l with attention := s.judgedLine l }

/-- Every attention line judged (R195). -/
def State.judgeAttention (s : State) : State :=
  { s with links := #v[s.judgedLink 0, s.judgedLink 1, s.judgedLink 2, s.judgedLink 3] }

/-- What a command does while main power is up: its change, with the attention lines judged in the same change.
While main power is down the part takes no request and no event (R212). -/
def State.event (f : State → State) (s : State) : Host.Outcome State Fault Refusal :=
  .next (if s.mainUp then (f s).judgeAttention else s)

end Sys2Proof.Machine
end

