-- ==== Sys2Proof/Machine/Settings.lean ====
section
/-! DEFINITION. The stored settings: their numbers, ranges, active values and parked slots (R55 to R60, R208), and what
an active measurement setting's change does to the capture unit (R46, R56). -/

namespace Sys2Proof.Machine

/-- The setting of a number, 1..16 (the settings table of 11). -/
def settingOf? : Nat → Option SettingId
  | 1 => some .dwell
  | 2 => some .deadTime
  | 3 => some .angleTol
  | 4 => some .countsPerRev
  | 5 => some .zScale
  | 6 => some .xScale
  | 7 => some .edgePolarity
  | 8 => some .guardRef
  | 9 => some .stationTimeout
  | 10 => some .calInterval
  | 11 => some .driftLimit
  | 12 => some .autoCal
  | 13 => some .dispenseTimeout
  | 14 => some .rePreset
  | 15 => some .doorRef
  | 16 => some .loadTimeout
  | _ => none

/-- The least and greatest value of a setting (the settings table of 11). -/
def SettingId.range : SettingId → Nat × Nat
  | .dwell => (0, 255)
  | .deadTime => (0, 65535)
  | .angleTol => (0, 4095)
  | .countsPerRev => (256, 65535)
  | .zScale => (1, 10000)
  | .xScale => (1, 10000)
  | .edgePolarity => (0, 1)
  | .guardRef => (0, 1)
  | .stationTimeout => (1, 60)
  | .calInterval => (1, 168)
  | .driftLimit => (0, 65535)
  | .autoCal => (0, 1)
  | .dispenseTimeout => (10, 900)
  | .rePreset => (0, 1)
  | .doorRef => (0, 1)
  | .loadTimeout => (30, 3600)

/-- A written value brought to the nearer end of the setting's range (R208). -/
def SettingId.ranged (i : SettingId) (v : Nat) : Nat := clamp i.range.1 i.range.2 v

/-- Settings 1 to 8 are the measurement settings (11). -/
def SettingId.isMeasurement : SettingId → Bool
  | .dwell => true
  | .deadTime => true
  | .angleTol => true
  | .countsPerRev => true
  | .zScale => true
  | .xScale => true
  | .edgePolarity => true
  | .guardRef => true
  | .stationTimeout => false
  | .calInterval => false
  | .driftLimit => false
  | .autoCal => false
  | .dispenseTimeout => false
  | .rePreset => false
  | .doorRef => false
  | .loadTimeout => false

/-- The active value of a setting. -/
def Settings.get (t : Settings) : SettingId → Nat
  | .dwell => t.dwell
  | .deadTime => t.deadTime
  | .angleTol => t.angleTol
  | .countsPerRev => t.countsPerRev
  | .zScale => t.zScale
  | .xScale => t.xScale
  | .edgePolarity => t.edgePolarity
  | .guardRef => t.guardRef
  | .stationTimeout => t.stationTimeout
  | .calInterval => t.calInterval
  | .driftLimit => t.driftLimit
  | .autoCal => t.autoCal
  | .dispenseTimeout => t.dispenseTimeout
  | .rePreset => t.rePreset
  | .doorRef => t.doorRef
  | .loadTimeout => t.loadTimeout

/-- A setting's active value replaced. -/
def Settings.put (t : Settings) (i : SettingId) (v : Nat) : Settings :=
  match i with
  | .dwell => { t with dwell := v }
  | .deadTime => { t with deadTime := v }
  | .angleTol => { t with angleTol := v }
  | .countsPerRev => { t with countsPerRev := v }
  | .zScale => { t with zScale := v }
  | .xScale => { t with xScale := v }
  | .edgePolarity => { t with edgePolarity := v }
  | .guardRef => { t with guardRef := v }
  | .stationTimeout => { t with stationTimeout := v }
  | .calInterval => { t with calInterval := v }
  | .driftLimit => { t with driftLimit := v }
  | .autoCal => { t with autoCal := v }
  | .dispenseTimeout => { t with dispenseTimeout := v }
  | .rePreset => { t with rePreset := v }
  | .doorRef => { t with doorRef := v }
  | .loadTimeout => { t with loadTimeout := v }

/-- A setting's parked slot; settings 9 to 16 have none (R57, R209). -/
def Parked.get (p : Parked) : SettingId → Option Nat
  | .dwell => p.dwell
  | .deadTime => p.deadTime
  | .angleTol => p.angleTol
  | .countsPerRev => p.countsPerRev
  | .zScale => p.zScale
  | .xScale => p.xScale
  | .edgePolarity => p.edgePolarity
  | .guardRef => p.guardRef
  | .stationTimeout => none
  | .calInterval => none
  | .driftLimit => none
  | .autoCal => none
  | .dispenseTimeout => none
  | .rePreset => none
  | .doorRef => none
  | .loadTimeout => none

/-- A parked slot replaced. -/
def Parked.put (p : Parked) (i : SettingId) (v : Option Nat) : Parked :=
  match i with
  | .dwell => { p with dwell := v }
  | .deadTime => { p with deadTime := v }
  | .angleTol => { p with angleTol := v }
  | .countsPerRev => { p with countsPerRev := v }
  | .zScale => { p with zScale := v }
  | .xScale => { p with xScale := v }
  | .edgePolarity => { p with edgePolarity := v }
  | .guardRef => { p with guardRef := v }
  | .stationTimeout => p
  | .calInterval => p
  | .driftLimit => p
  | .autoCal => p
  | .dispenseTimeout => p
  | .rePreset => p
  | .doorRef => p
  | .loadTimeout => p

/-- The qualifier takes its state afresh from the lines, dropping any latch (R46, R56). -/
def State.requalify (s : State) : State :=
  { s with capture := { s.capture with
      qualifier := if s.guardIsOpen then .guarded else if s.edgeIsActive then .heldActive else .listening } }

/-- What an active measurement setting's change does in the capture unit beyond marking the index check (R56). -/
def State.settingEffect (s : State) (i : SettingId) : State :=
  match i with
  | .dwell => s.requalify
  | .deadTime => s.requalify
  | .edgePolarity => s.requalify
  | .guardRef => s.requalify
  | .countsPerRev => { s with capture := { s.capture with a := s.capture.a % s.settings.countsPerRev } }
  | .angleTol => s
  | .zScale => s
  | .xScale => s
  | .stationTimeout => s
  | .calInterval => s
  | .driftLimit => s
  | .autoCal => s
  | .dispenseTimeout => s
  | .rePreset => s
  | .doorRef => s
  | .loadTimeout => s

/-- A measurement setting's value becomes active: when it differs, the index check pending mark is set and the
setting's own effect follows (R56). -/
def State.activate (s : State) (i : SettingId) (v : Nat) : State :=
  if s.settings.get i = v then s
  else
    State.settingEffect
      { s with settings := s.settings.put i v, capture := { s.capture with checkPending := true } } i

/-- One parked slot applied: its value becomes active and the slot is emptied (R58). -/
def State.applySlot (s : State) (i : SettingId) : State :=
  match s.parked.get i with
  | none => s
  | some v => { s.activate i v with parked := s.parked.put i none }

/-- Every parked slot applied (R58). -/
def State.applyParked (s : State) : State :=
  [SettingId.dwell, .deadTime, .angleTol, .countsPerRev, .zScale, .xScale, .edgePolarity, .guardRef].foldl
    State.applySlot s

end Sys2Proof.Machine
end

