-- ==== Sys2Proof/Machine/Queues.lean ====
section
/-! DEFINITION. The measurement queue's shared operations: enqueue and promotion (R64, R67), the auto-calibrate check
(R114), the engine's choice (R75), the fetch round (R148), and the removal of a job (R69). -/

namespace Sys2Proof.Machine

/-- Where a job is placed in its section (R67). -/
inductive QueuePlace where
  | head | tail
  deriving DecidableEq, Repr

/-- A WAITING job made with the next number and placed in its section (R64, R66, R67). -/
def State.enqueue (s : State) (kind : JobKind) (record : Option RecNo) (plan : Plan) (origin : Origin)
    (urgent : Bool) (place : QueuePlace) : State × Nat :=
  let n := takeNumber s.nextJob (s.jobs.map (·.number))
  let j : Job := { number := n, kind := kind, record := record, plan := plan, origin := origin, urgent := urgent,
                   prior := none, phase := .waiting }
  let q := match place with
    | .head => placeHead (·.urgent) j s.jobs
    | .tail => placeTail (·.urgent) j s.jobs
  ({ s with jobs := q, nextJob := nextNumber n }, n)

/-- Whether another block may enqueue a PRESET job for a record: fewer than 16 jobs, and none names it (R62, R67). -/
def State.mayEnqueue (s : State) (r : RecNo) : Bool := decide (s.jobs.length < 16) && (s.jobOf? r).isNone

/-- A job promoted to the tail of the urgent section; a job already there keeps its place (R67). -/
def State.promote (s : State) (n : Nat) : State :=
  match s.job? n with
  | none => s
  | some j =>
    if j.urgent then s
    else { s with jobs := placeTail (·.urgent) { j with urgent := true } (s.jobs.filter (fun k => k.number != n)) }

/-- The conditions of the auto-calibrate check (R114). -/
def State.autoCalDue (s : State) : Bool :=
  s.settings.autoCal == 1 && s.stale && !s.hasCalibrate && s.reference.gaugeTag != 0 && !s.reference.timePending &&
    (!s.reference.present || s.reference.lastOutcome != .driftRejected) && decide (s.jobs.length < 16)

/-- The auto-calibrate check: a CALIBRATE job at the head of the urgent section when its conditions hold (R114). -/
def State.autoCalCheck (s : State) : State :=
  if s.autoCalDue then (s.enqueue .calibrate none s.reference.plan .autoCal true .head).1 else s

/-- The engine's choice: an IDLE engine offers the first job in queue order that is WAITING and at the presetter
(R75). -/
def State.engineChoose (s : State) : State :=
  if s.engine.phase = .idle then
    match s.jobs.find? (fun j => j.phase == .waiting && s.jobAtPresetter j) with
    | none => s
    | some j => { s.changeJob j.number (fun k => { k with phase := .current }) with
                  engine := { Engine.idle with phase := .offered } }
  else s

/-- One fetch claim granted while a slot is free and fewer than two jobs are FETCHING (R71, R148). -/
def State.grantFetch (s : State) (n : Nat) : State :=
  match s.job? n with
  | none => s
  | some j =>
    match j.record with
    | none => s
    | some r =>
      match (s.tool r).loc.pocket? with
      | none => s
      | some p =>
        if j.phase = .waiting ∧ s.orders.length < 16 ∧ s.fetchingCount < 2 then
          let (s', o) := s.makeOrder (.presetter n) r p
          s'.changeJob n (fun k => { k with phase := .fetching o })
        else s

/-- The fetch round: fetch claims in measurement queue order (R148). -/
def State.fetchRound (s : State) : State := (s.jobs.map (·.number)).foldl State.grantFetch s

/-- The engine becomes IDLE, its context cleared and the parked settings applied (R58, R69, R84). -/
def State.engineToIdle (s : State) : State := State.applyParked { s with engine := Engine.idle }

/-- A job removed: its place is closed; when it was CURRENT the engine becomes IDLE; then the auto-calibrate check
is made (R69). -/
def State.dropJob (s : State) (j : Job) : State :=
  let s₁ := s.withoutJob j.number
  let s₂ := if j.phase = .current then s₁.engineToIdle else s₁
  s₂.autoCalCheck

/-- Whether a job's removal prompts an issue pass: it was urgent and WAITING with its record at CRIB, or its record
is READY at CRIB with no other job naming it (R69). -/
def removalPrompts (before : State) (j : Job) (after : State) : Bool :=
  (j.urgent && before.holdsClaim j) ||
    match j.record with
    | none => false
    | some r => (after.tool r).state == .ready && (after.tool r).loc.isCrib && (after.jobOf? r).isNone

end Sys2Proof.Machine
end

