-- ==== Sys2Proof/Machine/Pass.lean ====
section
/-! DEFINITION. The issue pass (R130 to R139), the slot arbiter's ticket claims (R147), and the tail that a change's
pass, fetch round and engine choice make together (R148, R156; log 12). -/

namespace Sys2Proof.Machine

/-- A record is a candidate for a ticket (R131). -/
def State.isCandidate (s : State) (t : Ticket) (n : RecNo) (r : ToolRecord) : Bool :=
  r.state == .ready && r.loc.isCrib && r.cls == t.cls && !r.recalled && (s.jobOf? n).isNone &&
    decide (t.minLife ≤ r.lifeRem)

/-- The first entry of a list that no later entry beats: `better a b` says that `a` is strictly better than `b`. -/
def bestOf (better : ToolRecord → ToolRecord → Bool) : List (RecNo × ToolRecord) → Option (RecNo × ToolRecord)
  | [] => none
  | e :: es =>
    match bestOf better es with
    | none => some e
    | some f => if better f.2 e.2 then some f else some e

/-- The candidate a ticket is served with: the least life remaining, then the lowest record number (R135). -/
def State.bestCandidate? (s : State) (t : Ticket) : Option (RecNo × ToolRecord) :=
  bestOf (fun a b => decide (a.lifeRem < b.lifeRem)) (s.table.filter (fun e => s.isCandidate t e.1 e.2))

/-- A handoff reservation is free (R133). -/
def State.reservationFree (s : State) : Bool :=
  decide (s.tickets.countP (fun t => t.phase.isDispensing) + s.handoffs.length < 64)

/-- The number of urgent fetch claims that could be granted now (R147). -/
def State.urgentFetchable (s : State) : Nat :=
  min (s.jobs.countP (fun j => j.urgent && s.holdsClaim j)) (2 - s.fetchingCount)

/-- The arbiter's answer to a ticket's claim (R147). -/
def State.grantsTicket (s : State) (t : Ticket) : Bool :=
  if t.urgent then decide (0 < s.freeSlots) else decide (s.urgentFetchable < s.freeSlots)

/-- A granted ticket is served with a record at its pocket (R135). -/
def State.serve (s : State) (t : Ticket) (n : RecNo) (p : Fin 240) : State :=
  let s₁ := s.changeTool n (fun r => { r with state := .allocated })
  let s₂ := (s₁.makeOrder (.cell t.number) n p).1
  s₂.changeTicket t.number (fun u => { u with phase := .dispensing n, starved := false })

/-- A record that a ticket may escalate (R136). -/
def State.mayEscalate (s : State) (t : Ticket) (n : RecNo) (r : ToolRecord) : Bool :=
  r.state == .presetDue && r.cls == t.cls && !r.recalled && decide (t.minLife ≤ r.lifeRem) &&
    (match s.jobOf? n with
     | none => true
     | some j => j.kind == .preset) &&
    !s.tickets.any (fun u => u.number != t.number && u.escalated == some n)

/-- The record a ticket escalates: the most life remaining, then the lowest record number (R136). -/
def State.escalationChoice? (s : State) (t : Ticket) : Option (RecNo × ToolRecord) :=
  bestOf (fun a b => decide (b.lifeRem < a.lifeRem)) (s.table.filter (fun e => s.mayEscalate t e.1 e.2))

/-- The ticket's note of where it sent its one escalation (R137). -/
def State.noteEscalation (s : State) (t : Ticket) (n : RecNo) : State :=
  s.changeTicket t.number (fun u => { u with escalated := some n, starved := false })

/-- A ticket marked STARVED (R138). -/
def State.starve (s : State) (t : Ticket) : State := s.changeTicket t.number (fun u => { u with starved := true })

/-- A ticket escalates: a job promoted or an urgent job enqueued, or STARVED when it cannot be made (R136, R137). -/
def State.escalate (s : State) (t : Ticket) : State :=
  match s.escalationChoice? t with
  | none => s.starve t
  | some (n, r) =>
    match s.jobOf? n with
    | some j => (s.promote j.number).noteEscalation t n
    | none =>
      if s.mayEnqueue n then
        State.noteEscalation (s.enqueue .preset (some n) r.plan .escalation true .tail).1 t n
      else s.starve t

/-- The escalated record is on its way to a preset, or ready (R138). -/
def State.escalationAlive (s : State) (n : RecNo) : Bool :=
  match (s.tool n).state with
  | .presetDue => s.jobs.any (fun j => j.record == some n && j.kind == .preset)
  | .measuring => true
  | .ready => true
  | .empty => false
  | .allocated => false
  | .inTransit => false
  | .inMachine => false
  | .returning => false
  | .quarantine => false
  | .worn => false
  | .check => false

/-- The pass reaches one WAITING ticket (R132). -/
def State.passWaiting (s : State) (t : Ticket) : State :=
  match s.bestCandidate? t with
  | some (n, r) =>
    match r.loc.pocket? with
    | some p =>
      if s.reservationFree && s.grantsTicket t then s.serve t n p
      else s.changeTicket t.number (fun u => { u with starved := false })
    | none => s
  | none =>
    match t.escalated with
    | none => s.escalate t
    | some e => if s.escalationAlive e then s else s.starve t

/-- The pass reaches the ticket of a number; DISPENSING and FAILED tickets are passed over (R132). -/
def State.passTicket (s : State) (n : Nat) : State :=
  match s.ticket? n with
  | none => s
  | some t => if t.phase = .waiting then s.passWaiting t else s

/-- The issue pass: the tickets in queue order (R132). -/
def State.issuePass (s : State) : State := (s.tickets.map (·.number)).foldl State.passTicket s

/-- What follows a change's own effects: an issue pass where one is prompted, then the fetch round, then the choice
of an IDLE engine (R75, R130, R148, R156; log 12). -/
def State.settle (s : State) (pass : Bool) : State :=
  State.engineChoose (State.fetchRound (if pass then s.issuePass else s))

end Sys2Proof.Machine
end

