-- ==== Sys2Proof/Machine/Power.lean ====
section
/-! DEFINITION. Power (11): the start (R213), the loss of main power and of the backup supply (R212), and the whole
seconds of the interval timers (log 5). -/

namespace Sys2Proof.Machine

/-! ### The straps (R200, R201) -/

/-- The role that a pair of role straps gives: bit 1 the second strap, bit 0 the first (R200). -/
def strappedRole (b : BitVec 2) : Role :=
  if b = 0 then .presetter else if b = 1 then .crib else if b = 2 then .cell else .supervisor

/-- The rate that a pair of rate straps gives: bit 1 the second strap, bit 0 the first. DEDUCED (log 41): R201 names two
levels without saying whose is first, and the order is that of R200's table. -/
def strappedRate (b : BitVec 2) : Rate :=
  if b = 0 then .r9600 else if b = 1 then .r19200 else if b = 2 then .r38400 else .r115200

/-- A role that one link at most takes (R200). -/
def Role.single : Role → Bool
  | .presetter => true
  | .crib => true
  | .cell => false
  | .supervisor => false
  | .disabled => false

/-- The role a link takes: DISABLED when a lower-numbered link has the same single role (R200). -/
def startRole (p : Pins) (l : LinkId) : Role :=
  let r := strappedRole p.roleStraps[l]
  if r.single && [(0 : LinkId), 1, 2, 3].any (fun m => decide (m < l) && strappedRole p.roleStraps[m] == r) then
    .disabled
  else r

/-- The links as a start leaves them (R200, R201, R213). -/
def startLinks (p : Pins) : Vector Link 4 :=
  #v[Link.started (startRole p 0) (strappedRate p.rateStraps[0]), Link.started (startRole p 1) (strappedRate p.rateStraps[1]),
     Link.started (startRole p 2) (strappedRate p.rateStraps[2]), Link.started (startRole p 3) (strappedRate p.rateStraps[3])]

/-- The lines as the start finds them (R213). -/
def startLines (p : Pins) : Lines :=
  { zPhase := p.zPhase, xPhase := p.xPhase, aPhase := p.aPhase, edgeLevel := p.edge, guardLevel := p.guardLine,
    doorLevel := p.door }

/-! ### Retained memory (R23, R24, R121, R210) -/

/-- A record lost at a warm start: CHECK at UNKNOWN with TAG_LOST (R24). -/
def ToolRecord.lost (r : ToolRecord) : ToolRecord := { r with state := .check, loc := .unknown, lastFault := .tagLost }

/-- A record IN_MACHINE on a link that is not CELL at this start (R24). -/
def ToolRecord.stranded (role : LinkId → Role) (r : ToolRecord) : Bool :=
  match r.loc.place? with
  | none => false
  | some p => role p.link != .cell

/-- The warm-start repair of one record (R24). -/
def ToolRecord.repaired (role : LinkId → Role) (r : ToolRecord) : ToolRecord :=
  match r.state with
  | .allocated => r.lost
  | .inTransit => r.lost
  | .measuring => { r with state := recallGate r.recalled .presetDue, loc := .presetter }
  | .presetDue => { r with state := recallGate r.recalled .presetDue }
  | .ready => { r with state := recallGate r.recalled .ready }
  | .inMachine => if r.stranded role then r.lost else r
  | .empty => r
  | .returning => r
  | .quarantine => r
  | .worn => r
  | .check => r

/-- The retained memory at a warm start: kept, with the repairs of the tool table and of the reference (R24, R121). -/
def State.warmMemory (role : LinkId → Role) (s : State) : State :=
  { s with
    records := s.records.map fun r => r.change (r.repaired role)
    reference := { s.reference with timePending := false, pendingAge := 0 } }

/-- The retained memory at a cold start: cleared, with the retention-lost latch set (R23, R121, R196, R210). -/
def State.coldMemory (s : State) : State :=
  { s with
    records := Vector.replicate 512 ToolRecord.blank
    recalls := []
    reference := Reference.cold
    settings := Settings.defaults
    parked := Parked.empty
    retentionLost := true }

/-! ### The start (R213) -/

/-- The start values of all that is not retained (R213 steps 1 and 3). -/
def State.startValues (p : Pins) (s : State) : State :=
  { s with
    mainUp := true, lossMark := false, lines := startLines p, links := startLinks p, capture := Capture.started, jobs := [],
    nextJob := 1, engine := Engine.idle, log := [], unread := false, tickets := [], nextTicket := 1, orders := [],
    nextOrder := 1, handoffs := [], nextHandoff := 1, hall := { count := 0, set := false } }

/-- A start: cold when the loss mark is set, warm otherwise (R212, R213; log 2, log 8). -/
def State.start (p : Pins) (s : State) : State :=
  let kept := if s.lossMark then s.coldMemory else s.warmMemory (startRole p)
  (((kept.startValues p).requalify.applyParked.autoCalCheck).engineChoose).judgeAttention

/-- START (R213). -/
def execStart (p : Pins) (s : State) : Host.Outcome State Fault Refusal := .next (s.start p)

/-- Main power falls: the part stops taking requests and events (R212; log 9). -/
def State.mainPowerLoss (s : State) : State := { s with mainUp := false }

/-- MAIN_POWER_LOSS (R212). -/
def execMainPowerLoss (s : State) : Host.Outcome State Fault Refusal := .next s.mainPowerLoss

/-- The backup supply falls too low: the loss mark is set while main power is down (R212; log 10). -/
def State.backupSupplyLoss (s : State) : State := if s.mainUp then s else { s with lossMark := true }

/-- BACKUP_SUPPLY_LOSS (R212). -/
def execBackupSupplyLoss (s : State) : Host.Outcome State Fault Refusal := .next s.backupSupplyLoss

/-! ### Whole seconds (log 5) -/

/-- A second off the dispense timer of a FETCHED order (R154). -/
def Order.secondPasses (o : Order) : Order :=
  match o.phase with
  | .released => o
  | .fetched left => { o with phase := .fetched (left - 1) }

/-- A second off the load timer of an OFFERED entry (R175). -/
def Handoff.secondPasses (h : Handoff) : Handoff :=
  match h.phase with
  | .staged => h
  | .offered left => { h with phase := .offered (left - 1) }

/-- A second off the station timeout of an ARMED engine (R79). -/
def Engine.secondPasses (e : Engine) : Engine :=
  match e.phase with
  | .armed left => { e with phase := .armed (left - 1) }
  | .idle => e
  | .offered => e
  | .mounted => e
  | .stationDone => e

/-- A second off the idle timer of a link's open edit (R38). -/
def Link.secondPasses (k : Link) : Link :=
  { k with edit := k.edit.map fun e => { e with idleLeft := e.idleLeft - 1 } }

/-- One idle second, while main power is up: every timer that counts whole seconds has one second less; each stays at
0 until its expiry is a command (log 5, log 6). -/
def State.idleSecond (s : State) : State :=
  if s.mainUp then
    { s with
      orders := s.orders.map Order.secondPasses
      handoffs := s.handoffs.map Handoff.secondPasses
      engine := s.engine.secondPasses
      links := s.links.map Link.secondPasses }
  else s

end Sys2Proof.Machine
end

