-- ==== Sys2Proof/Machine/Calc.lean ====
section
/-! DEFINITION. The offset calculator (05): station means, peaks, conversion, limits, verdict, and the record's end
state. It holds nothing; each definition is a function of its inputs. -/

namespace Sys2Proof.Machine

/-- The integer nearest S / k, a half rounded toward positive infinity: floor((2S + k) / (2k)). The divisor is
positive, so `/` rounds toward negative infinity (R92). -/
def stationMean (vs : List (BitVec 32)) : Int :=
  (2 * (vs.map BitVec.toInt).sum + vs.length) / (2 * vs.length)

/-- The greatest of a list of means (R93). -/
def greatest : List Int → Int
  | [] => 0
  | [m] => m
  | m :: ms => max m (greatest ms)

/-- The least of a list of means (R93). -/
def least : List Int → Int
  | [] => 0
  | [m] => m
  | m :: ms => min m (least ms)

/-- Zpk: the greatest Z mean (R93). -/
def zPeak (rs : List StationResult) : Int := greatest (rs.map fun r => stationMean r.zs)

/-- Xpk: the greatest X mean (R93). -/
def xPeak (rs : List StationResult) : Int := greatest (rs.map fun r => stationMean r.xs)

/-- Xlow: the least X mean (R93). -/
def xLow (rs : List StationResult) : Int := least (rs.map fun r => stationMean r.xs)

/-- The conversion rule: counts times nm per count, divided by 100, a half rounded away from zero (R94). -/
def convert (counts : Int) (scale : Nat) : Int :=
  let p := counts * scale
  p.sign * (((p.natAbs + 50) / 100 : Nat) : Int)

/-- L before stage 4 (R95). -/
def rawLength (ref : Reference) (scale : Nat) (rs : List StationResult) : Int :=
  ref.lRef + convert (zPeak rs - ref.zRef) scale

/-- R before stage 4 (R95). -/
def rawRadius (ref : Reference) (scale : Nat) (rs : List StationResult) : Int :=
  ref.rRef + convert (xPeak rs - ref.xRef) scale

/-- U before stage 4 (R96). -/
def rawRunout (scale : Nat) (rs : List StationResult) : Int := convert (xPeak rs - xLow rs) scale

/-- The results of stages 3 and 4: L, R and U within their ranges, absent where not formed, and whether L or R was
saturated (R97). -/
structure Measured where
  length    : Option Nat
  radius    : Option Nat
  runout    : Option Nat
  saturated : Bool
  deriving DecidableEq, Repr

/-- Stages 3 and 4 against the reference as held; nothing is formed when it is absent (R95 to R98). -/
def measured (ref : Reference) (t : Settings) (f : Features) (rs : List StationResult) : Measured :=
  if ref.present then
    let l := rawLength ref t.zScale rs
    let r := rawRadius ref t.xScale rs
    let u := rawRunout t.xScale rs
    { length := if f.hasLength then some (clampLength maxLength l) else none
      radius := if f.hasRadius then some (clampLength maxRadius r) else none
      runout := if f.hasRadius then some (clampLength 65535 u) else none
      saturated := (f.hasLength && ((clampLength maxLength l : Int) != l)) ||
        (f.hasRadius && ((clampLength maxRadius r : Int) != r)) }
  else { length := none, radius := none, runout := none, saturated := false }

/-- A measured feature lies outside its tolerance (R100). -/
def outOfTolerance (result : Option Nat) (nominal tolerance : Nat) : Bool :=
  match result with
  | none => false
  | some v => decide (tolerance < ((v : Int) - nominal).natAbs)

/-- The tool has worn by more than its wear limit (R101). -/
def wornOut (origin : Origin) (length : Option Nat) (r : ToolRecord) : Bool :=
  origin == .returned &&
    match length, r.presetLen with
    | some l, some prev => decide ((r.wearLimit : Int) < (prev : Int) - l)
    | none, _ => false
    | some _, none => false

/-- The runout is over the record's limit (R99). -/
def overRunout (runout : Option Nat) (limit : Nat) : Bool :=
  match runout with
  | none => false
  | some u => decide (limit < u)

/-- The status of a PRESET or VERIFY job: the first that applies (R99). -/
def judgeStatus (stale : Bool) (m : Measured) (origin : Origin) (r : ToolRecord) : Status :=
  if stale then .calStale
  else if m.saturated then .outOfRange
  else if overRunout m.runout r.runoutLimit then .runout
  else if outOfTolerance m.length r.nomLen r.lenTol || outOfTolerance m.radius r.nomRad r.radTol then .outTol
  else if wornOut origin m.length r then .wearLimit
  else .good

/-- The verdict a record keeps for a status (R3, R99); NO_EDGE, ABORTED and the calibration statuses write none. -/
def Status.verdict : Status → Verdict
  | .good => .good
  | .calStale => .calStale
  | .outOfRange => .outOfRange
  | .runout => .runout
  | .outTol => .outTol
  | .wearLimit => .wearLimit
  | .noEdge => .none
  | .aborted => .none
  | .fetchFailed => .none
  | .calAccepted => .none
  | .calDrift => .none

/-- Every feature of the default plan has a present preset field (R9, R103). -/
def ToolRecord.covered (r : ToolRecord) : Bool :=
  (!r.plan.features.hasLength || r.presetLen.isSome) && (!r.plan.features.hasRadius || r.presetRad.isSome)

/-- The preset that a GOOD result writes: the measured features, the job number and the hall time (R102). -/
def ToolRecord.writePreset (r : ToolRecord) (j : Job) (m : Measured) (hall : Option Nat) : ToolRecord :=
  { r with
    presetLen  := if j.plan.features.hasLength then m.length else r.presetLen
    presetRad  := if j.plan.features.hasRadius then m.radius else r.presetRad
    presetJob  := some j.number
    presetTime := hall }

/-- The record at the end of a PRESET job (R102 to R104). -/
def presetEnd (r : ToolRecord) (j : Job) (m : Measured) (status : Status) (hall : Option Nat) : ToolRecord :=
  let r₁ := if status = .good then r.writePreset j m hall else r
  let st : RecState :=
    if r.recalled then .quarantine
    else if status = .good then (if r₁.covered then .ready else .presetDue)
    else if status = .calStale then .presetDue
    else .quarantine
  { r₁ with state := st, lastVerdict := status.verdict }

/-- The record at the end of a VERIFY job: its prior state, or QUARANTINE when recalled, and the verdict (R105). -/
def verifyEnd (r : ToolRecord) (j : Job) (status : Status) : ToolRecord :=
  { r with
    state := if r.recalled then .quarantine else j.prior.getD r.state
    lastVerdict := status.verdict }

/-- Whether a GOOD PRESET result leaves a feature of the default plan without preset (R103). -/
def leavesIncomplete (r : ToolRecord) (j : Job) (m : Measured) (status : Status) (hall : Option Nat) : Bool :=
  j.kind == .preset && status == .good && !r.recalled && !(r.writePreset j m hall).covered

end Sys2Proof.Machine
end

