-- ==== Sys2Proof/Machine/Jobs.lean ====
section
/-! DEFINITION. The life of the engine's current job: completion of a station, computation, calibration, the end of a
job, a failed fetch, and the result log (R73, R80 to R89, R116 to R120). -/

namespace Sys2Proof.Machine

/-- An entry appended to the ring of 32, the oldest overwritten; the last-result-unread flag is set (R85, R86). -/
def State.appendLog (s : State) (e : LogEntry) : State :=
  let l := s.log ++ [e]
  { s with log := l.drop (l.length - 32), unread := true }

/-- The tag a job measures: its record's, or the gauge's (R77, R85). -/
def State.jobTag (s : State) (j : Job) : Tag :=
  match j.record with
  | none => s.reference.gaugeTag
  | some r => (s.tool r).tag

/-- The result entry of the current job's end (R84, R106, R120). -/
def State.endEntry (s : State) (j : Job) (status : Status) (length radius runout : Option Nat) : LogEntry :=
  { job := j.number, kind := j.kind, record := j.record, tag := s.jobTag j, status := status, flags := s.engine.flags,
    stations := s.engine.results.length, length := length, radius := radius, runout := runout,
    hallTime := s.hallTime? }

/-- The end of the current job after its record has taken its end state: the result entry, the removal with the
auto-calibrate check, the pass R69 prompts, and the engine's next choice (R84). -/
def State.concludeJob (s : State) (j : Job) (status : Status) (length radius runout : Option Nat) : State :=
  let s₁ := s.appendLog (s.endEntry j status length radius runout)
  let s₂ := s₁.dropJob j
  s₂.settle (removalPrompts s₁ j s₂)

/-- The record of a job that ends NO_EDGE or ABORTED: a MEASURING record of a PRESET job becomes PRESET_DUE, that of a
VERIFY job takes its prior state; QUARANTINE when recalled; any other record stays (R84). -/
def unmeasured (j : Job) (r : ToolRecord) : ToolRecord :=
  if r.state = .measuring then
    { r with state :=
        if r.recalled then .quarantine
        else match j.kind with
          | .preset => .presetDue
          | .verify => j.prior.getD .presetDue
          | .calibrate => .presetDue }
  else r

/-- The current job ends NO_EDGE or ABORTED (R84). -/
def State.stopJob (s : State) (j : Job) (status : Status) : State :=
  let s₁ := match j.record with
    | none => s
    | some r => s.changeTool r (unmeasured j)
  s₁.concludeJob j status none none none

/-- The current job ended ABORTED, if there is one (R83, R88). -/
def State.abortCurrent (s : State) : State :=
  match s.currentJob? with
  | none => s
  | some j => s.stopJob j .aborted

/-- The offset computation of a PRESET or VERIFY job and its end (R89 to R106). -/
def State.computeJob (s : State) (j : Job) (n : RecNo) : State :=
  let r := s.tool n
  let m := measured s.reference s.settings j.plan.features s.engine.results
  let status := judgeStatus s.stale m j.origin r
  let hall := s.hallTime?
  let s₀ := if s.stale then s.autoCalCheck else s
  let s₁ := s₀.changeTool n fun r =>
    match j.kind with
    | .preset => presetEnd r j m status hall
    | .verify => verifyEnd r j status
    | .calibrate => r
  let s₂ := { s₁ with engine := { s₁.engine with flags := { s₁.engine.flags with
                incomplete := s₁.engine.flags.incomplete || leavesIncomplete r j m status hall } } }
  s₂.concludeJob j status m.length m.radius m.runout

/-- The drifts of a finished calibration, formed when a reference is present (R116). -/
def Reference.drifts (ref : Reference) (zpk xpk : Int) : Option (Int × Int) :=
  if ref.present then some (zpk - ref.zRef, xpk - ref.xRef) else none

/-- Whether a finished calibration is rejected for drift (R116). -/
def driftRejected (limit : Nat) : Option (Int × Int) → Bool
  | none => false
  | some (dz, dx) => decide (limit < dz.natAbs) || decide (limit < dx.natAbs)

/-- The greatest count of seconds (R117, R197). -/
def maxSeconds : Nat := 4294967295

/-- The reference after a calibration is accepted, with the hall time set or unset (R117, R118). -/
def Reference.accept (ref : Reference) (zpk xpk : Int) (hall : Option Nat) (interval : Nat) : Reference :=
  { ref with
    present := true
    zRef := zpk
    xRef := xpk
    lRef := ref.gaugeLen
    rRef := ref.gaugeRad
    calTime := hall
    validUntil := hall.map fun t => min maxSeconds (t + interval * 3600)
    timePending := hall.isNone
    pendingAge := 0
    lastOutcome := .accepted }

/-- The reference after a finished calibration: the drifts written, then accepted or rejected (R116 to R118). -/
def Reference.complete (ref : Reference) (zpk xpk : Int) (hall : Option Nat) (t : Settings) : Reference :=
  let d : Option (Int × Int) := ref.drifts zpk xpk
  let ref₁ := { ref with driftZ := d.map Prod.fst, driftX := d.map Prod.snd }
  if driftRejected t.driftLimit d then { ref₁ with lastOutcome := .driftRejected }
  else ref₁.accept zpk xpk hall t.calInterval

/-- The completion of a CALIBRATE job and its end (R107, R116 to R120). -/
def State.calibrateJob (s : State) (j : Job) : State :=
  let zpk := zPeak s.engine.results
  let xpk := xPeak s.engine.results
  let rejected := driftRejected s.settings.driftLimit (s.reference.drifts zpk xpk)
  let s₁ := { s with reference := s.reference.complete zpk xpk s.hallTime? s.settings }
  if rejected then s₁.concludeJob j .calDrift none none none
  else s₁.concludeJob j .calAccepted (some s₁.reference.lRef) (some s₁.reference.rRef) none

/-- The plan's last station is complete: the job is computed and ends (R82). -/
def State.finishJob (s : State) (j : Job) : State :=
  match j.record with
  | none => s.calibrateJob j
  | some n => s.computeJob j n

/-- The armed station is complete with the samples the buffer holds; `reduced` when its timeout ended it. The engine
goes to STATION_DONE, or the job is computed when it was the plan's last (R80 to R82). -/
def State.completeStation (s : State) (j : Job) (reduced : Bool) : State :=
  let b := s.capture.buffer
  let e := s.engine
  let f := e.flags.addStation b
  let e₁ : Engine :=
    { phase := .stationDone, nextStation := e.nextStation + 1
      results := e.results ++ [{ zs := b.samples.map (·.z), xs := b.samples.map (·.x), angle := b.angle }]
      flags := { f with reducedAvg := f.reducedAvg || reduced } }
  let s₁ := { s with engine := e₁ }
  if j.plan.stations ≤ e₁.nextStation then s₁.finishJob j else s₁

/-- A measurement fetch that failed: a FETCH_FAILED entry with the record's tag, and the job removed (R73). -/
def State.failFetch (s : State) (j : Job) : State :=
  State.dropJob
    (s.appendLog { job := j.number, kind := j.kind, record := j.record, tag := s.jobTag j, status := .fetchFailed,
                   flags := JobFlags.clear, stations := 0, length := none, radius := none, runout := none,
                   hallTime := s.hallTime? }) j

end Sys2Proof.Machine
end

