-- ==== Sys2Proof/Machine/Links.lean ====
section
/-! DEFINITION. How a request is taken on its link: the request table's roles (R207), the waiting place and the
transmitter (R206), and the answer (R203). -/

namespace Sys2Proof.Machine

/-- The roles a request is open to, by function code (the request table of 11). -/
def requestRoles : Nat → List Role
  | 0x09 => [.presetter, .crib, .cell, .supervisor]
  | 0x0A => [.cell, .supervisor]
  | 0x0B => [.cell, .supervisor]
  | 0x0C => [.cell, .supervisor]
  | 0x0D => [.cell, .supervisor]
  | 0x0E => [.presetter, .supervisor]
  | 0x0F => [.presetter, .supervisor]
  | 0x11 => [.presetter, .supervisor]
  | 0x12 => [.presetter, .supervisor]
  | 0x13 => [.presetter]
  | 0x14 => [.presetter]
  | 0x15 => [.presetter, .supervisor]
  | 0x16 => [.presetter]
  | 0x17 => [.presetter, .supervisor]
  | 0x19 => [.presetter, .supervisor]
  | 0x1B => [.cell]
  | 0x1C => [.cell]
  | 0x1D => [.cell, .supervisor]
  | 0x1E => [.cell, .supervisor]
  | 0x1F => [.crib]
  | 0x20 => [.crib]
  | 0x21 => [.crib]
  | 0x22 => [.crib, .supervisor]
  | 0x23 => [.cell]
  | 0x24 => [.cell]
  | 0x25 => [.cell]
  | 0x26 => [.cell]
  | 0x27 => [.cell]
  | 0x28 => [.cell, .supervisor]
  | 0x29 => [.cell, .supervisor]
  | 0x2A => [.presetter, .crib, .cell, .supervisor]
  | 0x2B => [.presetter, .crib, .cell, .supervisor]
  | 0x2E => [.presetter, .crib, .cell, .supervisor]
  | _ => [.supervisor]

/-- Whether a request is open to a role (R207 steps 1 and 3). A DISABLED link is open to none (R202). -/
def roleAllows (code : Nat) (role : Role) : Bool := (requestRoles code).contains role

/-- A request of the table judged by its link's role, then by its owning rule (R207 steps 1, 3 and 5). -/
def State.byRole (l : LinkId) (code : Nat) (op : State → State × Reply) (s : State) : State × Reply :=
  if roleAllows code (s.link l).role then op s else (s, reply .roleRefused)

/-- The body of an answer frame: function code, tag byte, outcome code, results (R203). -/
def Answer.body (a : Answer) : List Byte := [a.function, a.tagByte, BitVec.ofNat 8 a.code.code] ++ a.results

/-- The check the part forms of an answer, over its length byte and its body (R204). -/
def Answer.check (a : Answer) : BitVec 16 := frameCheck (lengthByte a.body :: a.body)

/-- An answer as its frame on the wire: sync, length, body, and the check high byte first (R203, R204; log 31). -/
def Answer.frame (a : Answer) : List Byte := frameBytes a.body a.check

/-- The bytes that a link's transmitter is sending; none while it is idle (R203, R206; log 31). -/
def Link.sending (k : Link) : List Byte :=
  match k.tx with
  | none => []
  | some a => a.frame

/-- The transmitter begins to send an answer: the function code plus 0x80, the tag byte echoed, the outcome code and
the results (R203, R206; log 22). -/
def State.answer (l : LinkId) (f : Frame) (r : State × Reply) : State :=
  r.1.changeLink l fun k =>
    { k with tx := some { function := f.function + 0x80#8, tagByte := f.tagByte, code := r.2.code,
                          results := r.2.results } }

/-- A good frame handed in: taken at once on an idle link, put in the empty waiting place while an answer is being
sent, and discarded while another frame waits (R206). -/
def State.handIn (l : LinkId) (f : Frame) (judge : State → State × Reply) (s : State) : State :=
  if (s.link l).waiting.isSome then s
  else if (s.link l).tx.isSome then s.changeLink l fun k => { k with waiting := some f }
  else State.answer l f (judge s)

/-- A frame has completed on a link: its receiver goes to HUNTING (R205), and its bytes ended any space. -/
def State.received (s : State) (l : LinkId) : State :=
  s.changeLink l fun k => { k with receiver := .hunting, spaceChars := 0 }

/-- The frame that a request command stands for (log 3). -/
def frameOf (i : Instr) (c : Caller) : Frame :=
  { function := i.functionByte, tagByte := c.tagByte, params := i.params }

/-- A request command: its frame completes with a good check on the caller's link and is handed in; a receiver that
ignores its line after a break takes nothing (R206, R211; log 3). -/
def State.submit (i : Instr) (c : Caller) (op : State → State × Reply) (s : State) : State :=
  if (s.link c.link).ignoring then s
  else (s.received c.link).handIn c.link (frameOf i c) (State.byRole c.link (i.code.getD 0) op)

end Sys2Proof.Machine
end

