-- ==== Sys2Proof/Machine/Records.lean ====
section
/-! DEFINITION. The supervisor's lifecycle requests and the recall list (R13 to R22). -/

namespace Sys2Proof.Machine

/-- The record a REGISTER writes, its carried values ranged; RECALLED and QUARANTINE when the tag is on the recall
list (R4, R13, R21). -/
def registered (tag : Tag) (cls : BitVec 16) (nomLen nomRad : BitVec 32) (lenTol radTol runout wear : BitVec 16)
    (features stations samples lifeMode : Byte) (lifeInit : BitVec 24) (recalled : Bool) : ToolRecord :=
  { ToolRecord.blank with
    state := recallGate recalled .presetDue
    tag := tag
    cls := clamp 1 4095 cls.toNat
    loc := .presetter
    nomLen := clampLength maxLength nomLen.toInt
    nomRad := clampLength maxRadius nomRad.toInt
    lenTol := lenTol.toNat
    radTol := radTol.toNat
    runoutLimit := runout.toNat
    wearLimit := wear.toNat
    plan := rangePlan features.toNat stations.toNat samples.toNat
    lifeMode := rangeLifeMode lifeMode.toNat
    lifeInit := lifeInit.toNat
    lifeRem := lifeInit.toNat
    recalled := recalled }

/-- Whether a REGISTER carried a value outside its range (R4). -/
def registerClamped (cls : BitVec 16) (nomLen nomRad : BitVec 32) (features stations samples lifeMode : Byte) : Bool :=
  clamp 1 4095 cls.toNat != cls.toNat || (clampLength maxLength nomLen.toInt : Int) != nomLen.toInt ||
    (clampLength maxRadius nomRad.toInt : Int) != nomRad.toInt ||
    planClamped features.toNat stations.toNat samples.toNat || decide (1 < lifeMode.toNat)

/-- REGISTER (R13). -/
def opRegister (rec : BitVec 16) (tag : Tag) (cls : BitVec 16) (nomLen nomRad : BitVec 32)
    (lenTol radTol runout wear : BitVec 16) (features stations samples lifeMode : Byte) (lifeInit : BitVec 24)
    (s : State) : State × Reply :=
  match recNo? rec with
  | none => (s, reply .noSuchRecord)
  | some n =>
    if tag = 0 then (s, reply .outOfRange)
    else if (s.tool n).state ≠ .empty then (s, reply .wrongState)
    else if (s.holder? tag).isSome then (s, reply .tagInUse)
    else
      let s' := s.changeTool n fun _ =>
        registered tag cls nomLen nomRad lenTol radTol runout wear features stations samples lifeMode lifeInit
          (s.recalls.contains tag)
      (s', okOrClamped (registerClamped cls nomLen nomRad features stations samples lifeMode)
        (stateVersion (s'.tool n)))

/-- An order withdrawn when a job or a ticket held one, RELEASED (R155). -/
def State.withdrawFetch (s : State) (j : Job) : State :=
  match j.phase with
  | .fetching o => s.withoutOrder o
  | .waiting => s
  | .current => s

/-- A job may be withdrawn from under its record: it is WAITING, or FETCHING with its order RELEASED (R14, R20, R68). -/
def State.withdrawable (s : State) (j : Job) : Bool :=
  match j.phase with
  | .waiting => true
  | .fetching o => (s.order? o).all (fun q => q.phase == .released)
  | .current => false

/-- A job removed with its RELEASED order, and what follows in the change: the pass that the order's leaving or the
removal prompts, the round and the choice (R69, R155, R156). -/
def State.withdrawJob (before s : State) (j : Job) : State :=
  let s₁ := (s.withdrawFetch j).dropJob j
  s₁.settle (j.phase.isFetching || removalPrompts before j s₁)

/-- States in which RETIRE and the supervisor's edits are allowed (R14, R33). -/
def RecState.retirable : RecState → Bool
  | .presetDue => true
  | .ready => true
  | .quarantine => true
  | .worn => true
  | .check => true
  | .empty => false
  | .measuring => false
  | .allocated => false
  | .inTransit => false
  | .inMachine => false
  | .returning => false

/-- RETIRE (R14). -/
def opRetire (rec : BitVec 16) (s : State) : State × Reply :=
  match recNo? rec with
  | none => (s, reply .noSuchRecord)
  | some n =>
    let job := s.jobOf? n
    if job.any (fun j => !s.withdrawable j) then (s, reply .busy)
    else if !(s.tool n).state.retirable then (s, reply .wrongState)
    else
      let s₁ := s.changeTool n fun _ => ToolRecord.blank
      let s₂ := match job with
        | none => s₁
        | some j => s.withdrawJob s₁ j
      (s₂, okWith (stateVersion (s₂.tool n)))

/-- RELEASE (R15). -/
def opRelease (rec : BitVec 16) (s : State) : State × Reply :=
  match recNo? rec with
  | none => (s, reply .noSuchRecord)
  | some n =>
    if (s.tool n).state ≠ .quarantine then (s, reply .wrongState)
    else if (s.tool n).recalled then (s, reply .recalled)
    else if (s.jobOf? n).isSome then (s, reply .busy)
    else
      let s' := s.changeTool n fun r => { r with state := .presetDue, damaged := false }
      (s', okWith (stateVersion (s'.tool n)))

/-- RESET_LIFE (R16). -/
def opResetLife (rec : BitVec 16) (s : State) : State × Reply :=
  match recNo? rec with
  | none => (s, reply .noSuchRecord)
  | some n =>
    if (s.tool n).state ≠ .worn then (s, reply .wrongState)
    else
      let s' := s.changeTool n fun r =>
        { r with state := recallGate r.recalled .presetDue, lifeRem := r.lifeInit, presetLen := none,
                 presetRad := none, presetJob := none, presetTime := none }
      (s', okWith (stateVersion (s'.tool n)))

/-- The state and location a RECONCILE target stands for, or the refusal of its parameters (R17). -/
def reconcileTarget (s : State) (n : RecNo) (target pocket link machine machinePocket : Nat) :
    Except ReplyCode (RecState × Location) :=
  if target = 0 then
    match pocket? pocket with
    | none => .error .outOfRange
    | some p => if s.pocketHeld n p then .error .pocketInUse else .ok (.presetDue, .crib p)
  else if target = 1 then .ok (.presetDue, .presetter)
  else if target = 2 then .ok (.returning, .transit)
  else if target = 3 then
    if h : link < 4 then
      if 63 < machine ∨ machinePocket = 0 ∨ 250 < machinePocket then .error .outOfRange
      else if (s.link ⟨link, h⟩).role ≠ .cell then .error .outOfRange
      else .ok (.inMachine, .machine { link := ⟨link, h⟩, machine := machine, pocket := machinePocket })
    else .error .outOfRange
  else .error .outOfRange

/-- RECONCILE (R17). -/
def opReconcile (rec : BitVec 16) (target pocket link machine machinePocket : Byte) (s : State) : State × Reply :=
  match recNo? rec with
  | none => (s, reply .noSuchRecord)
  | some n =>
    if (s.tool n).state ≠ .check then (s, reply .wrongState)
    else
      match reconcileTarget s n target.toNat pocket.toNat link.toNat machine.toNat machinePocket.toNat with
      | .error code => (s, reply code)
      | .ok (st, loc) =>
        let s' := s.changeTool n fun r => { r with state := recallGate r.recalled st, loc := loc }
        (s', okWith (stateVersion (s'.tool n)))

/-- RECALLED set on a record that keeps its state (R20). -/
def State.markRecalled (s : State) (n : RecNo) : State := s.changeTool n fun r => { r with recalled := true }

/-- RECALLED set on a record that goes to QUARANTINE where it stands (R20). -/
def State.quarantineRecalled (s : State) (n : RecNo) : State :=
  s.changeTool n fun r => { r with recalled := true, state := .quarantine }

/-- A recalled PRESET_DUE or READY record, by its job (R20). -/
def State.recallDue (s : State) (n : RecNo) : State :=
  match s.jobOf? n with
  | none => s.quarantineRecalled n
  | some j =>
    if s.withdrawable j then s.withdrawJob (s.quarantineRecalled n) j
    else if j.phase = .current ∧ s.engine.phase = .offered then s.withdrawJob (s.quarantineRecalled n) j
    else s.markRecalled n

/-- A recalled ALLOCATED record: with its order RELEASED the order is withdrawn and the ticket returns to WAITING at
the head of its section; with its order FETCHED only RECALLED is set (R20). -/
def State.recallAllocated (s : State) (n : RecNo) : State :=
  match s.orderOf? n with
  | none => s.markRecalled n
  | some o =>
    match o.phase, o.link with
    | .released, .cell t =>
      State.settle
        (((s.quarantineRecalled n).withoutOrder o.number).ticketToHead t (fun u => { u with phase := .waiting })) true
    | .released, .presetter _ => s.markRecalled n
    | .fetched _, _ => s.markRecalled n

/-- What adding a tag to the recall list does to the record carrying it (R20). -/
def State.recallRecord (s : State) (n : RecNo) : State :=
  match (s.tool n).state with
  | .presetDue => s.recallDue n
  | .ready => s.recallDue n
  | .allocated => s.recallAllocated n
  | .empty => s
  | .measuring => s.markRecalled n
  | .inTransit => s.markRecalled n
  | .inMachine => s.markRecalled n
  | .returning => s.markRecalled n
  | .quarantine => s.markRecalled n
  | .worn => s.markRecalled n
  | .check => s.markRecalled n

/-- A record number and its state, or a present-marker of 0 in their place (R19, R22). -/
def recordAndState (s : State) : Option RecNo → List Byte
  | none => b1 0 ++ b2 0 ++ b1 0
  | some n => b1 1 ++ b2 n.val ++ b1 (s.tool n).state.code

/-- ADD_RECALL (R19, R20). -/
def opAddRecall (tag : Tag) (s : State) : State × Reply :=
  if tag = 0 then (s, reply .outOfRange)
  else if s.recalls.contains tag then (s, okWith (recordAndState s (s.holder? tag)))
  else if 64 ≤ s.recalls.length then (s, reply .listFull)
  else
    let s₁ := { s with recalls := s.recalls ++ [tag] }
    let who := s.holder? tag
    let s₂ := match who with
      | none => s₁
      | some n => s₁.recallRecord n
    (s₂, okWith (recordAndState s₂ who))

/-- REMOVE_RECALL (R22). -/
def opRemoveRecall (tag : Tag) (s : State) : State × Reply :=
  if tag = 0 then (s, reply .outOfRange)
  else if !s.recalls.contains tag then (s, okWith (recordAndState s (s.holder? tag)))
  else
    let s₁ := { s with recalls := s.recalls.filter (fun t => t != tag) }
    let who := s.holder? tag
    let s₂ := match who with
      | none => s₁
      | some n => s₁.changeTool n fun r => { r with recalled := false }
    (s₂, okWith (recordAndState s₂ who))

/-- LIST_RECALL (R18). -/
def opListRecall (skip count : Byte) (s : State) : State × Reply :=
  if 63 < skip.toNat ∨ count.toNat = 0 ∨ 29 < count.toNat then (s, reply .outOfRange)
  else
    let listed := (s.recalls.drop skip.toNat).take count.toNat
    (s, okWith (b1 s.recalls.length ++ b1 listed.length ++ listed.flatMap bTag))

/-! ### The meanings of the commands -/

/-- REGISTER (R13). -/
def execRegister (c : Caller) (rec : BitVec 16) (tag : Tag) (cls : BitVec 16) (nomLen nomRad : BitVec 32)
    (lenTol radTol runout wear : BitVec 16) (features stations samples lifeMode : Byte) (lifeInit : BitVec 24)
    (s : State) : Host.Outcome State Fault Refusal :=
  State.event (State.submit
    (.register c rec tag cls nomLen nomRad lenTol radTol runout wear features stations samples lifeMode lifeInit) c
    (opRegister rec tag cls nomLen nomRad lenTol radTol runout wear features stations samples lifeMode lifeInit)) s

/-- RETIRE (R14). -/
def execRetire (c : Caller) (rec : BitVec 16) (s : State) : Host.Outcome State Fault Refusal :=
  State.event (State.submit (.retire c rec) c (opRetire rec)) s

/-- RELEASE (R15). -/
def execRelease (c : Caller) (rec : BitVec 16) (s : State) : Host.Outcome State Fault Refusal :=
  State.event (State.submit (.release c rec) c (opRelease rec)) s

/-- RESET_LIFE (R16). -/
def execResetLife (c : Caller) (rec : BitVec 16) (s : State) : Host.Outcome State Fault Refusal :=
  State.event (State.submit (.resetLife c rec) c (opResetLife rec)) s

/-- RECONCILE (R17). -/
def execReconcile (c : Caller) (rec : BitVec 16) (target pocket link machine machinePocket : Byte) (s : State) :
    Host.Outcome State Fault Refusal :=
  State.event (State.submit (.reconcile c rec target pocket link machine machinePocket) c
    (opReconcile rec target pocket link machine machinePocket)) s

/-- ADD_RECALL (R19, R20). -/
def execAddRecall (c : Caller) (tag : Tag) (s : State) : Host.Outcome State Fault Refusal :=
  State.event (State.submit (.addRecall c tag) c (opAddRecall tag)) s

/-- REMOVE_RECALL (R22). -/
def execRemoveRecall (c : Caller) (tag : Tag) (s : State) : Host.Outcome State Fault Refusal :=
  State.event (State.submit (.removeRecall c tag) c (opRemoveRecall tag)) s

/-- LIST_RECALL (R18). -/
def execListRecall (c : Caller) (skip count : Byte) (s : State) : Host.Outcome State Fault Refusal :=
  State.event (State.submit (.listRecall c skip count) c (opListRecall skip count)) s

end Sys2Proof.Machine
end

