-- ==== Sys2Proof/Machine/Access.lean ====
section
/-! DEFINITION. Record access (02): READ_RECORD and the buffered edit. -/

namespace Sys2Proof.Machine

/-! ### Reading -/

/-- The bytes of `count` fields from `first` on, in field order (R26). -/
def fieldRange (r : ToolRecord) (first count : Nat) : List Byte :=
  (List.range' first count).flatMap (fieldBytes r)

/-- READ_RECORD (R25, R26). -/
def opReadRecord (rec : BitVec 16) (first count : Byte) (s : State) : State × Reply :=
  match recNo? rec with
  | none => (s, reply .noSuchRecord)
  | some n =>
    if count.toNat = 0 ∨ 24 < count.toNat then (s, reply .outOfRange)
    else if 23 < first.toNat ∨ 24 < first.toNat + count.toNat then (s, reply .badField)
    else
      (s, okWith (b2 n.val ++ b1 first.toNat ++ b1 count.toNat ++ b2 (s.tool n).version.toNat ++
        fieldRange (s.tool n) first.toNat count.toNat))

/-! ### The edit buffer -/

/-- The idle time of an open edit, in seconds (R38). -/
def editIdleSeconds : Nat := 5

/-- OPEN_EDIT on a link (R28). -/
def opOpenEdit (l : LinkId) (rec : BitVec 16) (first last mode : Byte) (expected : BitVec 16) (s : State) :
    State × Reply :=
  match recNo? rec with
  | none => (s, reply .noSuchRecord)
  | some n =>
    if 23 < first.toNat ∨ 23 < last.toNat ∨ last.toNat < first.toNat then (s, reply .badField)
    else if 1 < mode.toNat then (s, reply .outOfRange)
    else if (s.tool n).state = .empty then (s, reply .wrongState)
    else
      let e : Edit :=
        { record := n, tag := (s.tool n).tag, first := first.toNat, last := last.toNat
          mode := if mode = 0 then .always else .ifVersion expected
          pointer := first.toNat, entries := [], truncated := false, idleLeft := editIdleSeconds }
      (s.changeLink l (fun k => { k with edit := some e }),
        okWith (b2 (s.tool n).version.toNat ++ b1 (s.tool n).state.code ++ bFlag (s.link l).edit.isSome))

/-- The operation a byte names (R29). -/
def editOp? (b : Byte) : Option EditOp :=
  if b = 0 then some .skip
  else if b = 1 then some .set
  else if b = 2 then some .setIfLower
  else if b = 3 then some .setIfHigher
  else none

/-- The entries read against `k` fields from `field` on, and the bytes that follow the last of them; `none` when a
read entry is malformed (R30, R31). -/
def readEntries : (k field : Nat) → List Byte → Option (List Entry × List Byte)
  | 0, _, bs => some ([], bs)
  | _ + 1, _, [] => some ([], [])
  | k + 1, field, b :: bs =>
    match editOp? b with
    | none => none
    | some .skip =>
      (readEntries k (field + 1) bs).map fun q => ({ field := field, op := .skip, value := [] } :: q.1, q.2)
    | some op =>
      let w := fieldWidth field
      let value := bs.take w
      if bs.length < w then none
      else if fieldOptional field && value.any (fun _ => decide (1 < (value.headD 0).toNat)) then none
      else
        (readEntries k (field + 1) (bs.drop w)).map fun q => ({ field := field, op := op, value := value } :: q.1, q.2)

/-- EDIT_DATA on a link (R30, R31). -/
def opEditData (l : LinkId) (bytes : List Byte) (s : State) : State × Reply :=
  match (s.link l).edit with
  | none => (s, reply .noEdit)
  | some e =>
    match readEntries (e.last + 1 - e.pointer) e.pointer bytes with
    | none => (s, reply .outOfRange)
    | some (new, left) =>
      let e' := { e with
        pointer := e.pointer + new.length
        entries := e.entries ++ new
        truncated := e.truncated || !left.isEmpty
        idleLeft := editIdleSeconds }
      (s.changeLink l (fun k => { k with edit := some e' }),
        okWith (b1 e'.pointer ++ b1 e'.entries.length ++ bFlag e'.truncated))

/-! ### Commit -/

/-- Whether an entry is permitted to a role at a record as it stands (R33). -/
def entryPermitted (role : Role) (l : LinkId) (r : ToolRecord) (e : Entry) : Bool :=
  match role with
  | .supervisor =>
    if e.field = 16 then r.state != .empty
    else if e.field = 3 ∨ (7 ≤ e.field ∧ e.field ≤ 12) ∨ e.field = 15 then r.state.retirable
    else if e.field = 13 ∨ e.field = 14 then r.state.retirable && e.op == .set
    else false
  | .cell => e.field == 16 && e.op == .setIfLower && r.inMachineOn l
  | .presetter => false
  | .crib => false
  | .disabled => false

/-- The lowest refused field of an edit; SKIP entries are not judged (R32, R33). -/
def refusedField? (role : Role) (l : LinkId) (r : ToolRecord) (es : List Entry) : Option Nat :=
  (es.find? (fun e => e.op != .skip && !entryPermitted role l r e)).map (·.field)

/-- The number a value spells at a field: signed for the two lengths, unsigned for all others (R29, R34). -/
def entryNumber (e : Entry) : Int := if e.field = 7 ∨ e.field = 8 then leInt e.value else (leNat e.value : Int)

/-- The value of a field that holds one number. -/
def numberAt (r : ToolRecord) : Nat → Nat
  | 3 => r.cls
  | 7 => r.nomLen
  | 8 => r.nomRad
  | 9 => r.lenTol
  | 10 => r.radTol
  | 11 => r.runoutLimit
  | 12 => r.wearLimit
  | 15 => r.lifeInit
  | 16 => r.lifeRem
  | _ => 0

/-- A field that holds one number, written. -/
def writeNumber (r : ToolRecord) (f v : Nat) : ToolRecord :=
  match f with
  | 3 => { r with cls := v }
  | 7 => { r with nomLen := v }
  | 8 => { r with nomRad := v }
  | 9 => { r with lenTol := v }
  | 10 => { r with radTol := v }
  | 11 => { r with runoutLimit := v }
  | 12 => { r with wearLimit := v }
  | 15 => { r with lifeInit := v }
  | 16 => { r with lifeRem := v }
  | _ => r

/-- A number brought into a field's range; life remaining is lowered to the life initial that earlier entries left
(R4, R34). -/
def rangeNumber (r : ToolRecord) (f : Nat) (v : Int) : Nat :=
  match f with
  | 3 => clamp 1 4095 v.toNat
  | 7 => clampLength maxLength v
  | 8 => clampLength maxRadius v
  | 15 => min maxLife v.toNat
  | 16 => min r.lifeInit (min maxLife v.toNat)
  | _ => min 65535 v.toNat

/-- What applying entries leaves: the record, how many conditional entries were not applied, and the fields whose
values were brought into range (R34, R35). -/
structure Applied where
  record     : ToolRecord
  notApplied : Nat
  ranged     : List Nat
  deriving DecidableEq, Repr

/-- Whether a conditional operation writes, given the ranged value and the value the field holds (R29). -/
def EditOp.writes (op : EditOp) (new old : Nat) : Bool :=
  match op with
  | .skip => false
  | .set => true
  | .setIfLower => decide (new < old)
  | .setIfHigher => decide (old < new)

/-- A byte of an entry's value. -/
def Entry.byte (e : Entry) (k : Nat) : Nat := (e.value.getD k 0).toNat

/-- One entry applied to what the earlier entries left (R34). -/
def applyEntry (a : Applied) (e : Entry) : Applied :=
  if e.op = .skip then a
  else if e.field = 13 then
    { a with
      record := { a.record with plan := rangePlan (e.byte 0) (e.byte 1) (e.byte 2) }
      ranged := if planClamped (e.byte 0) (e.byte 1) (e.byte 2) then a.ranged ++ [13] else a.ranged }
  else if e.field = 14 then
    { a with
      record := { a.record with lifeMode := rangeLifeMode (e.byte 0) }
      ranged := if 1 < e.byte 0 then a.ranged ++ [14] else a.ranged }
  else
    let raw := entryNumber e
    let v := rangeNumber a.record e.field raw
    let writes := e.op.writes v (numberAt a.record e.field)
    { record := if writes then writeNumber a.record e.field v else a.record
      notApplied := if writes then a.notApplied else a.notApplied + 1
      ranged := if (v : Int) ≠ raw then a.ranged ++ [e.field] else a.ranged }

/-- The consequences that follow the entries in the same change: life remaining lowered to a lower life initial
(R8), and a READY record whose new plan names a feature without preset (R9, R21). -/
def editConsequences (old new : ToolRecord) : ToolRecord :=
  { new with
    lifeRem := min new.lifeRem new.lifeInit
    state := if new.state = .ready ∧ new.plan ≠ old.plan ∧ new.covered = false then recallGate new.recalled .presetDue
             else new.state }

/-- The entries of an edit applied in field order (R34). -/
def applyEntries (r : ToolRecord) (es : List Entry) : Applied :=
  es.foldl applyEntry { record := r, notApplied := 0, ranged := [] }

/-- How many fields other than the version differ (R35). -/
def changedFields (old new : ToolRecord) : Nat :=
  (List.range 24).countP (fun f => f != 1 && fieldBytes old f != fieldBytes new f)

/-- A commit on a READY record at CRIB that changes its class or raises its life remaining prompts an issue pass
(R36, R130). -/
def editPrompts (old new : ToolRecord) : Bool :=
  old.state == .ready && old.loc.isCrib && (old.cls != new.cls || decide (old.lifeRem < new.lifeRem))

/-- The record no longer carries the tag, or its version has moved (R32). -/
def editBlocked? (r : ToolRecord) (e : Edit) : Option ReplyCode :=
  if r.tag ≠ e.tag then some .wrongState
  else
    match e.mode with
    | .always => none
    | .ifVersion v => if r.version = v then none else some .staleVersion

/-- The edit of a link committed at its record (R34 to R36). The pass is part of the change, so the record's version
rises at most once (R11, R130; log 14). The answer's three numbers take one byte each (log 39). DESIGN CHOICE (log 40):
the number of changed fields counts what the edit's entries and their consequences (R8, R9) changed, so not the state
that the pass gives the record; the version and the state answered are those after the pass (log 15). -/
def commitEdit (l : LinkId) (e : Edit) (s : State) : State × Reply :=
  let old := s.tool e.record
  let a := applyEntries old e.entries
  let new := editConsequences old a.record
  let s₁ := (s.changeTool e.record fun _ => new).changeLink l (fun k => { k with edit := none })
  let s₂ := if editPrompts old new then (s₁.settle true).asOneChange s e.record else s₁
  (s₂,
    { code := if e.truncated then .committedTruncated else .committed
      results := b1 (changedFields old new) ++ b1 a.notApplied ++ b1 a.ranged.length ++ bOpt 1 a.ranged.head? ++
        b2 (s₂.tool e.record).version.toNat ++ b1 (s₂.tool e.record).state.code })

/-- CLOSE_EDIT on a link (R32). -/
def opCloseEdit (l : LinkId) (s : State) : State × Reply :=
  match (s.link l).edit with
  | none => (s, reply .noEdit)
  | some e =>
    match editBlocked? (s.tool e.record) e with
    | some code => (s, reply code)
    | none =>
      match refusedField? (s.link l).role l (s.tool e.record) e.entries with
      | some f => (s, { code := .fieldRefused, results := b1 f })
      | none => commitEdit l e s

/-- ABORT_EDIT on a link (R37). -/
def opAbortEdit (l : LinkId) (s : State) : State × Reply :=
  match (s.link l).edit with
  | none => (s, reply .noEdit)
  | some e => (s.changeLink l (fun k => { k with edit := none }), okWith (b2 e.record.val))

/-- The idle timer of a link's open edit expires: the edit is discarded (R38). -/
def editExpires (l : LinkId) (s : State) : State := s.changeLink l (fun k => { k with edit := none })

/-! ### The meanings of the commands -/

/-- READ_RECORD (R25). -/
def execReadRecord (c : Caller) (rec : BitVec 16) (first count : Byte) (s : State) :
    Host.Outcome State Fault Refusal :=
  State.event (State.submit (.readRecord c rec first count) c (opReadRecord rec first count)) s

/-- OPEN_EDIT (R28). -/
def execOpenEdit (c : Caller) (rec : BitVec 16) (first last mode : Byte) (expected : BitVec 16) (s : State) :
    Host.Outcome State Fault Refusal :=
  State.event (State.submit (.openEdit c rec first last mode expected) c
    (opOpenEdit c.link rec first last mode expected)) s

/-- EDIT_DATA (R30). -/
def execEditData (c : Caller) (bytes : List Byte) (s : State) : Host.Outcome State Fault Refusal :=
  State.event (State.submit (.editData c bytes) c (opEditData c.link bytes)) s

/-- CLOSE_EDIT (R32). -/
def execCloseEdit (c : Caller) (s : State) : Host.Outcome State Fault Refusal :=
  State.event (State.submit (.closeEdit c) c (opCloseEdit c.link)) s

/-- ABORT_EDIT (R37). -/
def execAbortEdit (c : Caller) (s : State) : Host.Outcome State Fault Refusal :=
  State.event (State.submit (.abortEdit c) c (opAbortEdit c.link)) s

/-- EDIT_IDLE_TIMEOUT (R38). -/
def execEditIdleTimeout (l : LinkId) (s : State) : Host.Outcome State Fault Refusal :=
  State.event (editExpires l) s

end Sys2Proof.Machine
end

