-- ==== Sys2Proof/Machine/Issue.lean ====
section
/-! DEFINITION. The requests on tickets (07): REQUEST_TOOL, WITHDRAW_TICKET, ISSUE_STATUS and LIST_TICKETS. -/

namespace Sys2Proof.Machine

/-- The assigned record of a ticket (R123). -/
def TicketPhase.assigned? : TicketPhase → Option RecNo
  | .waiting => none
  | .dispensing n => some n
  | .failed => none

/-- A value of REQUEST_TOOL lies outside its range (R125 check 1). -/
def requestToolBad (machine machinePocket : Byte) (cls : BitVec 16) (priority : Byte) : Bool :=
  decide (63 < machine.toNat) || decide (machinePocket.toNat = 0) || decide (250 < machinePocket.toNat) ||
    decide (cls.toNat = 0) || decide (4095 < cls.toNat) || decide (1 < priority.toNat)

/-- A ticket of the queue is for the same link, machine and machine pocket (R125 check 2). -/
def State.hasTicketFor (s : State) (l : LinkId) (machine machinePocket : Nat) : Bool :=
  s.tickets.any fun t => t.link == l && t.machine == machine && t.machinePocket == machinePocket

/-- A new ticket placed at the tail of its section, with its number (R124, R126). -/
def State.placeTicket (s : State) (l : LinkId) (machine machinePocket cls minLife : Nat) (urgent : Bool) :
    State × Nat :=
  let n := takeNumber s.nextTicket (s.tickets.map (·.number))
  let t : Ticket := { number := n, link := l, machine := machine, machinePocket := machinePocket, cls := cls,
                      minLife := minLife, urgent := urgent, phase := .waiting, attempts := 0, escalated := none,
                      starved := false }
  ({ s with tickets := placeTail (·.urgent) t s.tickets, nextTicket := nextNumber n }, n)

/-- What REQUEST_TOOL answers of a ticket (R126). -/
def ticketOutcome (s : State) (n : Nat) : List Byte :=
  match s.ticket? n with
  | none => []
  | some t => b2 n ++ b1 t.phase.code ++ bOptRec t.phase.assigned? ++ bOptRec t.escalated ++ bFlag t.starved

/-- REQUEST_TOOL on a link (R125, R126). -/
def opRequestTool (l : LinkId) (machine machinePocket : Byte) (cls : BitVec 16) (minLife : BitVec 24) (priority : Byte)
    (s : State) : State × Reply :=
  if requestToolBad machine machinePocket cls priority then (s, reply .outOfRange)
  else if s.hasTicketFor l machine.toNat machinePocket.toNat then (s, reply .duplicate)
  else if 32 ≤ s.tickets.length then (s, reply .queueFull)
  else
    let q := s.placeTicket l machine.toNat machinePocket.toNat cls.toNat minLife.toNat (priority == 1)
    let s' := q.1.settle true
    (s', { code := .accepted, results := ticketOutcome s' q.2 })

/-- REQUEST_TOOL (R125). -/
def execRequestTool (c : Caller) (machine machinePocket : Byte) (cls : BitVec 16) (minLife : BitVec 24) (priority : Byte)
    (s : State) : Host.Outcome State Fault Refusal :=
  State.event (State.submit (.requestTool c machine machinePocket cls minLife priority) c
    (opRequestTool c.link machine machinePocket cls minLife priority)) s

/-- WITHDRAW_TICKET on a link (R127). -/
def opWithdrawTicket (l : LinkId) (ticket : BitVec 16) (s : State) : State × Reply :=
  match s.ticket? ticket.toNat with
  | none => (s, reply .noSuchTicket)
  | some t =>
    if t.link ≠ l then (s, reply .noSuchTicket)
    else if t.phase.isDispensing then (s, reply .busy)
    else (s.withoutTicket t.number, okWith [])

/-- WITHDRAW_TICKET (R127). -/
def execWithdrawTicket (c : Caller) (ticket : BitVec 16) (s : State) : Host.Outcome State Fault Refusal :=
  State.event (State.submit (.withdrawTicket c ticket) c (opWithdrawTicket c.link ticket)) s

/-- The order that a ticket is linked to (R145). -/
def State.orderOfTicket? (s : State) (n : Nat) : Option Order := s.orders.find? fun o => o.link == .cell n

/-- The number and phase of a DISPENSING ticket's order, or a present-marker of 0 in their place (R128). -/
def ticketOrderBytes (s : State) (t : Ticket) : List Byte :=
  match if t.phase.isDispensing then s.orderOfTicket? t.number else none with
  | none => b1 0 ++ leBytes 3 0
  | some o => b1 1 ++ b2 o.number ++ b1 o.phase.code

/-- The failure reason, present while the ticket is FAILED (R123; log 18). -/
def failureBytes (t : Ticket) : List Byte :=
  if t.phase = .failed then b1 1 ++ [Config.noRetryLeftCode] else b1 0 ++ b1 0

/-- The values of ISSUE_STATUS: the items of R123 in their order, the place, and the order (R128). The attempts and the
place take one byte each, a width that R203 does not name for them: the model's choice (log 39). -/
def ticketBytes (s : State) (t : Ticket) : List Byte :=
  b2 t.number ++ b1 t.link.val ++ b1 t.machine ++ b1 t.machinePocket ++ b2 t.cls ++ b3 t.minLife ++ bFlag t.urgent ++
    b1 t.phase.code ++ bOptRec t.phase.assigned? ++ b1 t.attempts ++ bOptRec t.escalated ++ bFlag t.starved ++
    failureBytes t ++ b1 (s.tickets.findIdx (fun u => u.number == t.number) + 1) ++ ticketOrderBytes s t

/-- A CELL link sees its own entries only; the supervisor sees every entry (R128, R129, R178). -/
def State.sees (s : State) (l owner : LinkId) : Bool := (s.link l).role != .cell || owner == l

/-- ISSUE_STATUS on a link (R128). -/
def opIssueStatus (l : LinkId) (ticket : BitVec 16) (s : State) : State × Reply :=
  match s.ticket? ticket.toNat with
  | none => (s, reply .noSuchTicket)
  | some t => if s.sees l t.link then (s, okWith (ticketBytes s t)) else (s, reply .noSuchTicket)

/-- ISSUE_STATUS (R128). -/
def execIssueStatus (c : Caller) (ticket : BitVec 16) (s : State) : Host.Outcome State Fault Refusal :=
  State.event (State.submit (.issueStatus c ticket) c (opIssueStatus c.link ticket)) s

/-- LIST_TICKETS on a link (R129). -/
def opListTickets (l : LinkId) (s : State) : State × Reply :=
  let ts := s.tickets.filter fun t => s.sees l t.link
  (s, okWith (b1 ts.length ++ ts.flatMap fun t => b2 t.number ++ b1 t.phase.code))

/-- LIST_TICKETS (R129). -/
def execListTickets (c : Caller) (s : State) : Host.Outcome State Fault Refusal :=
  State.event (State.submit (.listTickets c) c (opListTickets c.link)) s

end Sys2Proof.Machine
end

