-- ==== Sys2Proof/Machine/Crib.lean ====
section
/-! DEFINITION. The crib order unit (08): FETCH_ORDER, ORDER_DONE, DEPOSIT, LIST_ORDERS, the dispense timeout and the
door line; and the staging of a handoff entry at a delivery (R169). -/

namespace Sys2Proof.Machine

/-! ### Fetching (R149) -/

/-- An order changed in its place. -/
def State.changeOrder (s : State) (n : Nat) (f : Order → Order) : State :=
  { s with orders := s.orders.map fun o => if o.number == n then f o else o }

/-- The number of the ticket or job an order is linked to (R145). -/
def OrderLink.number : OrderLink → Nat
  | .cell t => t
  | .presetter j => j

/-- The ticket that a DISPENSE_TO_CELL order is for (R145). -/
def State.orderTicket? (s : State) (o : Order) : Option Ticket :=
  match o.link with
  | .cell t => s.ticket? t
  | .presetter _ => none

/-- The destination of an order: its ticket's link, machine and machine pocket, or a present-marker of 0 in their
place (R149). -/
def destinationBytes (s : State) (o : Order) : List Byte :=
  match s.orderTicket? o with
  | none => b1 0 ++ leBytes 3 0
  | some t => b1 1 ++ b1 t.link.val ++ b1 t.machine ++ b1 t.machinePocket

/-- The values of FETCH_ORDER (R149). -/
def fetchBytes (s : State) (o : Order) : List Byte :=
  b2 o.number ++ b1 o.link.code ++ b2 o.record.val ++ bTag (s.tool o.record).tag ++ b1 o.pocket.val ++
    destinationBytes s o ++ b2 s.settings.dispenseTimeout

/-- FETCH_ORDER (R149). -/
def opFetchOrder (s : State) : State × Reply :=
  match if s.doorIsOpen then none else s.oldestReleased? with
  | none => (s, reply .none)
  | some o =>
    (s.changeOrder o.number fun q => { q with phase := .fetched s.settings.dispenseTimeout }, okWith (fetchBytes s o))

/-- FETCH_ORDER (R149). -/
def execFetchOrder (c : Caller) (s : State) : Host.Outcome State Fault Refusal :=
  State.event (State.submit (.fetchOrder c) c opFetchOrder) s

/-! ### Outcomes (R151 to R154) -/

/-- The snapshot of a record (R167, R169). -/
def ToolRecord.snapshot (r : ToolRecord) : Snapshot :=
  { tag := r.tag, cls := r.cls, presetLen := r.presetLen, presetRad := r.presetRad, lifeRem := r.lifeRem,
    lifeMode := r.lifeMode, presetJob := r.presetJob, presetTime := r.presetTime, version := r.version }

/-- A handoff entry staged for a ticket with the snapshot of its record as the change has left it (R168, R169). -/
def State.stage (s : State) (t : Ticket) (r : RecNo) : State :=
  let n := takeNumber s.nextHandoff (s.handoffs.map (·.number))
  { s with
    handoffs := s.handoffs ++ [{ number := n, ticket := t.number, link := t.link, machine := t.machine,
                                 machinePocket := t.machinePocket, record := r, snapshot := (s.tool r).snapshot,
                                 phase := .staged }]
    nextHandoff := nextNumber n }

/-- An order delivered: the tool out of its pocket, the order retired, and its ticket or job as R140 and R72 give
(R152). -/
def State.deliver (s : State) (o : Order) : State :=
  match o.link with
  | .cell t =>
    let s₁ := (s.changeTool o.record fun r => { r with state := .inTransit, loc := .transit }).withoutOrder o.number
    match s₁.ticket? t with
    | none => s₁
    | some k => (s₁.withoutTicket t).stage k o.record
  | .presetter j =>
    ((s.changeTool o.record fun r => { r with loc := .presetter }).withoutOrder o.number).changeJob j
      fun k => { k with phase := .waiting }

/-- A ticket whose order failed: WAITING at the head of its section, or FAILED in its place at the third (R141). -/
def State.retryTicket (s : State) (n : Nat) : State :=
  match s.ticket? n with
  | none => s
  | some t =>
    if 3 ≤ t.attempts + 1 then s.changeTicket n fun u => { u with attempts := u.attempts + 1, phase := .failed }
    else s.ticketToHead n fun u => { u with attempts := u.attempts + 1, phase := .waiting }

/-- An order failed: the record CHECK at UNKNOWN with its last fault, the order retired, and the failure taken by
its ticket or job (R153). -/
def State.fail (s : State) (o : Order) (fault : LastFault) : State :=
  let s₁ := (s.changeTool o.record fun r =>
    { r with state := .check, loc := .unknown, lastFault := fault }).withoutOrder o.number
  match o.link with
  | .cell t => s₁.retryTicket t
  | .presetter j =>
    match s₁.job? j with
    | none => s₁
    | some k => s₁.failFetch k

/-- What an outcome code reports (R151): DELIVERED, or the fault of a failure. -/
inductive CribOutcome where
  | delivered
  | failed (fault : LastFault)
  deriving DecidableEq, Repr

/-- The outcome of a code (R151). -/
def cribOutcome? (v : Nat) : Option CribOutcome :=
  if v = 0 then some .delivered
  else if v = 1 then some (.failed .pocketEmpty)
  else if v = 2 then some (.failed .jammed)
  else none

/-- Whether an order is FETCHED (R145). -/
def OrderPhase.isFetched : OrderPhase → Bool
  | .released => false
  | .fetched _ => true

/-- An order retired by an outcome, with the pass, the round and the choice that follow (R152, R153, R156). -/
def State.retire (s : State) (o : Order) : CribOutcome → State
  | .delivered => (s.deliver o).settle true
  | .failed fault => (s.fail o fault).settle true

/-- ORDER_DONE (R151). -/
def opOrderDone (order : BitVec 16) (outcome : Byte) (s : State) : State × Reply :=
  match cribOutcome? outcome.toNat with
  | none => (s, reply .outOfRange)
  | some w =>
    match s.order? order.toNat with
    | none => (s, reply .noSuchOrder)
    | some o =>
      if !o.phase.isFetched then (s, reply .notFetched)
      else
        let s' := s.retire o w
        (s', okWith (b2 o.record.val ++ stateVersion (s'.tool o.record)))

/-- ORDER_DONE (R151). -/
def execOrderDone (c : Caller) (order : BitVec 16) (outcome : Byte) (s : State) : Host.Outcome State Fault Refusal :=
  State.event (State.submit (.orderDone c order outcome) c (opOrderDone order outcome)) s

/-- The dispense timer of a FETCHED order expires (R154; log 6, log 7). -/
def State.dispenseExpires (s : State) (n : Nat) : State :=
  match s.order? n with
  | none => s
  | some o => if o.phase.isFetched then s.retire o (.failed .orderTimeout) else s

/-- DISPENSE_TIMEOUT (R154). -/
def execDispenseTimeout (order : BitVec 16) (s : State) : Host.Outcome State Fault Refusal :=
  State.event (fun t => t.dispenseExpires order.toNat) s

/-! ### Listing (R157) -/

/-- The dispense timer's seconds left, with its marker (R157). -/
def OrderPhase.left? : OrderPhase → Option Nat
  | .released => none
  | .fetched left => some left

/-- The 12 bytes of an order in LIST_ORDERS (R157). -/
def orderBytes (o : Order) : List Byte :=
  b2 o.number ++ b1 o.link.code ++ b2 o.record.val ++ b1 o.pocket.val ++ b2 o.link.number ++ b1 o.phase.code ++
    bOpt 2 o.phase.left?

/-- LIST_ORDERS (R157; log 18). -/
def opListOrders (s : State) : State × Reply :=
  (s, okWith ([Config.doorLineCode s.doorIsOpen] ++ b1 s.fetchingCount ++ b1 s.orders.length ++
    s.orders.flatMap orderBytes))

/-- LIST_ORDERS (R157). -/
def execListOrders (c : Caller) (s : State) : Host.Outcome State Fault Refusal :=
  State.event (State.submit (.listOrders c) c opListOrders) s

/-! ### Deposits (R159 to R164) -/

/-- The state a deposit gives a record before its RECALLED flag is looked at; `none` where no deposit is allowed
(R160, R161, R163). -/
def depositTarget (r : ToolRecord) : Option RecState :=
  if r.loc = .presetter ∧ (r.state = .ready ∨ r.state = .presetDue ∨ r.state = .quarantine) then some r.state
  else if r.loc = .transit ∧ r.state = .returning then
    if r.damaged then some .quarantine else if r.lifeRem = 0 then some .worn else some .presetDue
  else if r.loc = .unknown ∧ r.state = .check then some .presetDue
  else none

/-- A record with RECALLED set ends the deposit in QUARANTINE (R159). -/
def depositState (r : ToolRecord) (st : RecState) : RecState := if r.recalled then .quarantine else st

/-- An offered job whose record was deposited is taken back, and the engine becomes IDLE (R76). -/
def State.takeBack (s : State) (n : RecNo) : State :=
  match s.currentJob? with
  | none => s
  | some j =>
    if j.record = some n ∧ s.engine.phase = .offered then
      (s.changeJob j.number fun k => { k with phase := .waiting }).engineToIdle
    else s

/-- The RETURN job of a deposit, when there is to be one (R162). -/
def State.enqueueReturn (s : State) (n : RecNo) (returning : Bool) : State × Option Nat :=
  if returning && (s.tool n).state == .presetDue && s.settings.rePreset == 1 && s.mayEnqueue n then
    let q := s.enqueue .preset (some n) (s.tool n).plan .returned false .tail
    (q.1, some q.2)
  else (s, none)

/-- A deposit made: the record at its pocket, the RETURN job, the job taken back, then the pass, the round and the
choice (R159, R164). The pass is part of the change, so the record's version rises once (R11, R130; log 14). -/
def State.depositAt (s : State) (n : RecNo) (p : Fin 240) (st : RecState) : State × Option Nat :=
  let s₁ := s.changeTool n fun r => { r with state := depositState r st, loc := .crib p }
  let q := s₁.enqueueReturn n ((s.tool n).state == .returning)
  (((q.1.takeBack n).settle ((s₁.tool n).state == .ready)).asOneChange s n, q.2)

/-- DEPOSIT (R159). -/
def opDeposit (tag : Tag) (pocket : Byte) (s : State) : State × Reply :=
  if tag = 0 then (s, reply .outOfRange)
  else
    match pocket? pocket.toNat with
    | none => (s, reply .outOfRange)
    | some p =>
      match s.holder? tag with
      | none => (s, reply .noSuchRecord)
      | some n =>
        match depositTarget (s.tool n) with
        | none => (s, reply .wrongState)
        | some st =>
          if s.pocketHeld n p then (s, reply .pocketInUse)
          else
            let q := s.depositAt n p st
            (q.1, okWith (b2 n.val ++ stateVersion (q.1.tool n) ++ bOpt 2 q.2))

/-- DEPOSIT (R159). -/
def execDeposit (c : Caller) (tag : Tag) (pocket : Byte) (s : State) : Host.Outcome State Fault Refusal :=
  State.event (State.submit (.deposit c tag pocket) c (opDeposit tag pocket)) s

/-! ### The door line (R150) -/

/-- The door line opens (R150). -/
def State.doorOpens (s : State) : State :=
  if s.doorIsOpen then s else { s with lines := { s.lines with doorLevel := !(s.settings.doorRef == 1) } }

/-- DOOR_OPENS (R150). -/
def execDoorOpens (s : State) : Host.Outcome State Fault Refusal := State.event State.doorOpens s

/-- The door line returns to closed: an issue pass and a fetch round (R150). -/
def State.doorCloses (s : State) : State :=
  if s.doorIsOpen then State.settle { s with lines := { s.lines with doorLevel := s.settings.doorRef == 1 } } true
  else s

/-- DOOR_CLOSES (R150). -/
def execDoorCloses (s : State) : Host.Outcome State Fault Refusal := State.event State.doorCloses s

end Sys2Proof.Machine
end

