-- ==== Sys2Proof/Machine/HandoffUnit.lean ====
section
/-! DEFINITION. The handoff unit (09): FETCH_HANDOFF, CONFIRM_LOAD, REJECT_HANDOFF, READ_HANDOFF, LIST_HANDOFFS, the
load timeout, and the reports of usage and unloads. -/

namespace Sys2Proof.Machine

/-- A handoff entry changed in its place. -/
def State.changeHandoff (s : State) (n : Nat) (f : Handoff → Handoff) : State :=
  { s with handoffs := s.handoffs.map fun h => if h.number == n then f h else h }

/-- Whether an entry is OFFERED (R167). -/
def HandoffPhase.isOffered : HandoffPhase → Bool
  | .staged => false
  | .offered _ => true

/-- The load timer's seconds left, with its marker (R178). -/
def HandoffPhase.left? : HandoffPhase → Option Nat
  | .staged => none
  | .offered left => some left

/-- The bytes of a snapshot, item by item as R2 encodes the record field of the same name (R167). -/
def snapshotBytes (p : Snapshot) : List Byte :=
  bTag p.tag ++ b2 p.cls ++ bOpt 4 p.presetLen ++ bOpt 4 p.presetRad ++ b3 p.lifeRem ++ b1 p.lifeMode.code ++
    bOpt 2 p.presetJob ++ bOpt 4 p.presetTime ++ b2 p.version.toNat

/-- The values of FETCH_HANDOFF (R171). -/
def handoffFetchBytes (s : State) (h : Handoff) : List Byte :=
  b2 h.number ++ b2 h.ticket ++ b1 h.machine ++ b1 h.machinePocket ++ b2 h.record.val ++ snapshotBytes h.snapshot ++
    b2 s.settings.loadTimeout

/-- The oldest STAGED entry for a link (R171). -/
def State.oldestStaged? (s : State) (l : LinkId) : Option Handoff :=
  s.handoffs.find? fun h => h.link == l && h.phase == .staged

/-- FETCH_HANDOFF on a link (R171). -/
def opFetchHandoff (l : LinkId) (s : State) : State × Reply :=
  match s.oldestStaged? l with
  | none => (s, reply .none)
  | some h =>
    (s.changeHandoff h.number fun k => { k with phase := .offered s.settings.loadTimeout },
      okWith (handoffFetchBytes s h))

/-- FETCH_HANDOFF (R171). -/
def execFetchHandoff (c : Caller) (s : State) : Host.Outcome State Fault Refusal :=
  State.event (State.submit (.fetchHandoff c) c (opFetchHandoff c.link)) s

/-- The entry of a number whose destination is the link (R172, R174). -/
def State.handoffFor? (s : State) (l : LinkId) (n : Nat) : Option Handoff :=
  match s.handoff? n with
  | none => none
  | some h => if h.link = l then some h else none

/-- An entry retired with its record's new state and location, and the pass that follows (R177). -/
def State.retireHandoff (s : State) (h : Handoff) (f : ToolRecord → ToolRecord) : State :=
  ((s.withoutHandoff h.number).changeTool h.record f).settle true

/-- The machine place of a handoff entry (R173). -/
def Handoff.place (h : Handoff) : Place := { link := h.link, machine := h.machine, pocket := h.machinePocket }

/-- CONFIRM_LOAD on a link (R172, R173). -/
def opConfirmLoad (l : LinkId) (handoff : BitVec 16) (tag : Tag) (s : State) : State × Reply :=
  if tag = 0 then (s, reply .outOfRange)
  else
    match s.handoffFor? l handoff.toNat with
    | none => (s, reply .noSuchHandoff)
    | some h =>
      if !h.phase.isOffered then (s, reply .notOffered)
      else if tag ≠ h.snapshot.tag then (s, reply .tagMismatch)
      else
        let s' := s.retireHandoff h fun r => { r with state := .inMachine, loc := .machine h.place }
        let r' := s'.tool h.record
        (s', okWith (b2 h.record.val ++ stateVersion r' ++ b3 r'.lifeRem ++ bFlag r'.recalled ++
          bFlag ((s.tool h.record).version != h.snapshot.version)))

/-- CONFIRM_LOAD (R172). -/
def execConfirmLoad (c : Caller) (handoff : BitVec 16) (tag : Tag) (s : State) : Host.Outcome State Fault Refusal :=
  State.event (State.submit (.confirmLoad c handoff tag) c (opConfirmLoad c.link handoff tag)) s

/-- REJECT_HANDOFF on a link (R174). -/
def opRejectHandoff (l : LinkId) (handoff : BitVec 16) (s : State) : State × Reply :=
  match s.handoffFor? l handoff.toNat with
  | none => (s, reply .noSuchHandoff)
  | some h =>
    if !h.phase.isOffered then (s, reply .notOffered)
    else
      let s' := s.retireHandoff h fun r => { r with state := .returning, loc := .transit, damaged := true }
      (s', okWith (b2 h.record.val ++ stateVersion (s'.tool h.record)))

/-- REJECT_HANDOFF (R174). -/
def execRejectHandoff (c : Caller) (handoff : BitVec 16) (s : State) : Host.Outcome State Fault Refusal :=
  State.event (State.submit (.rejectHandoff c handoff) c (opRejectHandoff c.link handoff)) s

/-- The load timer of an OFFERED entry expires (R176; log 6, log 7). -/
def State.loadExpires (s : State) (n : Nat) : State :=
  match s.handoff? n with
  | none => s
  | some h =>
    if h.phase.isOffered then
      s.retireHandoff h fun r => { r with state := .check, loc := .unknown, lastFault := .loadTimeout }
    else s

/-- LOAD_TIMEOUT (R176). -/
def execLoadTimeout (handoff : BitVec 16) (s : State) : Host.Outcome State Fault Refusal :=
  State.event (fun t => t.loadExpires handoff.toNat) s

/-- The values of READ_HANDOFF: the items of R167 in their order, then the record's state, version, life remaining
and RECALLED flag (R178). -/
def handoffBytes (s : State) (h : Handoff) : List Byte :=
  let r := s.tool h.record
  b2 h.number ++ b2 h.ticket ++ b1 h.link.val ++ b1 h.machine ++ b1 h.machinePocket ++ b2 h.record.val ++
    snapshotBytes h.snapshot ++ b1 h.phase.code ++ bOpt 2 h.phase.left? ++ stateVersion r ++ b3 r.lifeRem ++
    bFlag r.recalled

/-- READ_HANDOFF on a link (R178). -/
def opReadHandoff (l : LinkId) (handoff : BitVec 16) (s : State) : State × Reply :=
  match s.handoff? handoff.toNat with
  | none => (s, reply .noSuchHandoff)
  | some h => if s.sees l h.link then (s, okWith (handoffBytes s h)) else (s, reply .noSuchHandoff)

/-- READ_HANDOFF (R178). -/
def execReadHandoff (c : Caller) (handoff : BitVec 16) (s : State) : Host.Outcome State Fault Refusal :=
  State.event (State.submit (.readHandoff c handoff) c (opReadHandoff c.link handoff)) s

/-- LIST_HANDOFFS on a link (R178). -/
def opListHandoffs (l : LinkId) (s : State) : State × Reply :=
  let hs := s.handoffs.filter fun h => s.sees l h.link
  (s, okWith (b1 hs.length ++ hs.flatMap fun h => b2 h.number ++ b1 h.phase.code))

/-- LIST_HANDOFFS (R178). -/
def execListHandoffs (c : Caller) (s : State) : Host.Outcome State Fault Refusal :=
  State.event (State.submit (.listHandoffs c) c (opListHandoffs c.link)) s

/-! ### Life in the machine (R179, R180) -/

/-- The checks that REPORT_USAGE and REPORT_UNLOAD share: the record, or the refusal (R179, R180). -/
def State.loadedOn (s : State) (l : LinkId) (rec : BitVec 16) : Except ReplyCode RecNo :=
  match recNo? rec with
  | none => .error .noSuchRecord
  | some n =>
    if (s.tool n).state ≠ .inMachine then .error .wrongState
    else if (s.tool n).inMachineOn l then .ok n
    else .error .notYours

/-- REPORT_USAGE on a link (R179). -/
def opReportUsage (l : LinkId) (rec : BitVec 16) (amount : BitVec 24) (s : State) : State × Reply :=
  match s.loadedOn l rec with
  | .error code => (s, reply code)
  | .ok n =>
    let s' := s.changeTool n fun r => { r with lifeRem := r.lifeRem - amount.toNat }
    let r' := s'.tool n
    (s', okWith (b3 r'.lifeRem ++ b2 r'.version.toNat ++ b3 ((s.tool n).lifeRem - r'.lifeRem)))

/-- REPORT_USAGE (R179). -/
def execReportUsage (c : Caller) (rec : BitVec 16) (amount : BitVec 24) (s : State) :
    Host.Outcome State Fault Refusal :=
  State.event (State.submit (.reportUsage c rec amount) c (opReportUsage c.link rec amount)) s

/-- REPORT_UNLOAD on a link (R180). -/
def opReportUnload (l : LinkId) (rec : BitVec 16) (s : State) : State × Reply :=
  match s.loadedOn l rec with
  | .error code => (s, reply code)
  | .ok n =>
    let s' := s.changeTool n fun r => { r with state := .returning, loc := .transit }
    let r' := s'.tool n
    (s', okWith (stateVersion r' ++ b3 r'.lifeRem))

/-- REPORT_UNLOAD (R180). -/
def execReportUnload (c : Caller) (rec : BitVec 16) (s : State) : Host.Outcome State Fault Refusal :=
  State.event (State.submit (.reportUnload c rec) c (opReportUnload c.link rec)) s

end Sys2Proof.Machine
end

