-- ==== Sys2Proof/Machine/Measure.lean ====
section
/-! DEFINITION. The requests of the measurement engine (04): MEASURE, CANCEL_JOB, LIST_JOBS, GET_JOB, MOUNT,
ARM_STATION, ABORT_JOB, GET_RESULT and READ_RESULTS. -/

namespace Sys2Proof.Machine

/-! ### MEASURE (R65, R66) -/

/-- The job kind of a code (R63). -/
def jobKind? (v : Nat) : Option JobKind :=
  if v = 0 then some .preset else if v = 1 then some .verify else if v = 2 then some .calibrate else none

/-- How a present-marker is read; 0 is absent, 1 is present, any other is left open (R203; log 20). -/
def readMarker (m : Byte) : Config.MarkerReading :=
  if m = 0 then .absent else if m = 1 then .present else Config.strayMarker m

/-- The record states a kind of job may be asked for in (R65 step 4). -/
def JobKind.mayMeasure (k : JobKind) (st : RecState) : Bool :=
  match k with
  | .preset => st == .presetDue || st == .ready
  | .verify => st == .ready || st == .quarantine
  | .calibrate => false

/-- The location is CRIB or PRESETTER (R65 step 4). -/
def Location.measurable (l : Location) : Bool := l.isCrib || l == .presetter

/-- The plan a PRESET or VERIFY job takes: the ranged override, or the record's default plan (R66). -/
def measurePlan (override : Bool) (features stations samples : Byte) (r : ToolRecord) : Plan :=
  if override then rangePlan features.toNat stations.toNat samples.toNat else r.plan

/-- The origin of a job from a link (R66). -/
def originOf (role : Role) : Origin := if role = .presetter then .presetterLink else .supervisorLink

/-- The answer of an accepted MEASURE, after the fetch round and the engine's choice (R66, R71, R75). -/
def measureAccepted (q : State × Nat) (clamped : Bool) : State × Reply :=
  (q.1.settle false, { code := .accepted, results := b2 q.2 ++ bFlag clamped })

/-- MEASURE for CALIBRATE (R65 steps 2 and 5, R66). -/
def measureGauge (l : LinkId) (urgent override : Bool) (s : State) : State × Reply :=
  if override then (s, reply .outOfRange)
  else if s.hasCalibrate then (s, reply .duplicate)
  else if s.reference.gaugeTag = 0 then (s, reply .wrongState)
  else if 16 ≤ s.jobs.length then (s, reply .queueFull)
  else
    measureAccepted (s.enqueue .calibrate none s.reference.plan (originOf (s.link l).role) urgent .tail) false

/-- MEASURE for PRESET or VERIFY (R65 steps 3 to 5, R66). -/
def measureTool (l : LinkId) (k : JobKind) (rec : BitVec 16) (urgent override : Bool)
    (features stations samples : Byte) (s : State) : State × Reply :=
  match recNo? rec with
  | none => (s, reply .noSuchRecord)
  | some n =>
    let r := s.tool n
    if r.state = .empty then (s, reply .wrongState)
    else if r.recalled then (s, reply .recalled)
    else if (s.jobOf? n).isSome then (s, reply .duplicate)
    else if !k.mayMeasure r.state || !r.loc.measurable then (s, reply .wrongState)
    else if 16 ≤ s.jobs.length then (s, reply .queueFull)
    else
      let s₁ := if k = .preset then s.changeTool n fun r => { r with state := .presetDue } else s
      measureAccepted
        (s₁.enqueue k (some n) (measurePlan override features stations samples r) (originOf (s.link l).role) urgent .tail)
        (override && planClamped features.toNat stations.toNat samples.toNat)

/-- MEASURE on a link (R65, R66). -/
def opMeasure (l : LinkId) (kind : Byte) (rec : BitVec 16) (urgent marker features stations samples : Byte)
    (s : State) : State × Reply :=
  match jobKind? kind.toNat with
  | none => (s, reply .outOfRange)
  | some k =>
    if 1 < urgent.toNat ∨ readMarker marker = .refused then (s, reply .outOfRange)
    else
      match k with
      | .calibrate => measureGauge l (urgent == 1) (readMarker marker == .present) s
      | .preset => measureTool l .preset rec (urgent == 1) (readMarker marker == .present) features stations samples s
      | .verify => measureTool l .verify rec (urgent == 1) (readMarker marker == .present) features stations samples s

/-- MEASURE (R65). -/
def execMeasure (c : Caller) (kind : Byte) (rec : BitVec 16) (urgent marker features stations samples : Byte)
    (s : State) : Host.Outcome State Fault Refusal :=
  State.event (State.submit (.measure c kind rec urgent marker features stations samples) c
    (opMeasure c.link kind rec urgent marker features stations samples)) s

/-! ### Removing and listing (R68, R70, R77) -/

/-- A CURRENT job may be cancelled while the engine is OFFERED (R68). -/
def State.cancellable (s : State) (j : Job) : Bool :=
  s.withdrawable j || (j.phase == .current && s.engine.phase == .offered)

/-- CANCEL_JOB (R68). -/
def opCancelJob (job : BitVec 16) (s : State) : State × Reply :=
  match s.job? job.toNat with
  | none => (s, reply .notCurrent)
  | some j => if s.cancellable j then (s.withdrawJob s j, okWith []) else (s, reply .busy)

/-- CANCEL_JOB (R68). -/
def execCancelJob (c : Caller) (job : BitVec 16) (s : State) : Host.Outcome State Fault Refusal :=
  State.event (State.submit (.cancelJob c job) c (opCancelJob job)) s

/-- The order number of a FETCHING job (R63). -/
def JobPhase.order? : JobPhase → Option Nat
  | .waiting => none
  | .fetching o => some o
  | .current => none

/-- The 12 bytes of a job in LIST_JOBS (R70). -/
def jobBytes (j : Job) : List Byte :=
  b2 j.number ++ b1 j.kind.code ++ bOptRec j.record ++ b1 j.origin.code ++ bFlag j.urgent ++ b1 j.phase.code ++
    bOpt 2 j.phase.order?

/-- LIST_JOBS (R70). -/
def opListJobs (s : State) : State × Reply := (s, okWith (b1 s.jobs.length ++ s.jobs.flatMap jobBytes))

/-- LIST_JOBS (R70). -/
def execListJobs (c : Caller) (s : State) : Host.Outcome State Fault Refusal :=
  State.event (State.submit (.listJobs c) c opListJobs) s

/-- The nominal length and radius of a job: its record's, or the gauge's (R77). -/
def State.jobNominals (s : State) (j : Job) : Nat × Nat :=
  match j.record with
  | none => (s.reference.gaugeLen, s.reference.gaugeRad)
  | some r => ((s.tool r).nomLen, (s.tool r).nomRad)

/-- The values of GET_JOB, in the order R77 lists them. -/
def currentJobBytes (s : State) (j : Job) : List Byte :=
  b1 s.engine.phase.code ++ b2 j.number ++ b1 j.kind.code ++ b1 j.origin.code ++ bFlag j.urgent ++
    bOptRec j.record ++ bTag (s.jobTag j) ++ bPlan j.plan ++ b4 (s.jobNominals j).1 ++ b4 (s.jobNominals j).2 ++
    b1 s.engine.nextStation ++ b1 s.engine.flags.code

/-- GET_JOB (R77). -/
def opGetJob (s : State) : State × Reply :=
  match s.currentJob? with
  | none => (s, reply .none)
  | some j => if s.engine.phase = .idle then (s, reply .none) else (s, okWith (currentJobBytes s j))

/-- GET_JOB (R77). -/
def execGetJob (c : Caller) (s : State) : Host.Outcome State Fault Refusal :=
  State.event (State.submit (.getJob c) c opGetJob) s

/-! ### The presetter's requests (R78, R79, R83) -/

/-- The engine's current job, when the engine is not IDLE and the number is the job's (R78, R79, R83). -/
def State.currentNumbered? (s : State) (n : Nat) : Option Job :=
  if s.engine.phase = .idle then none
  else
    match s.currentJob? with
    | none => none
    | some j => if j.number = n then some j else none

/-- The engine MOUNTED: the record's state saved as the prior state, and the record MEASURING (R78). -/
def State.mounted (s : State) (j : Job) : State :=
  let s' := { s with engine := { s.engine with phase := .mounted } }
  match j.record with
  | none => s'
  | some r =>
    State.changeTool (s'.changeJob j.number fun k => { k with prior := some (s.tool r).state }) r
      fun t => { t with state := .measuring }

/-- MOUNT (R78). -/
def opMount (job : BitVec 16) (tag : Tag) (s : State) : State × Reply :=
  match s.currentNumbered? job.toNat with
  | none => (s, reply .notCurrent)
  | some j =>
    if s.engine.phase ≠ .offered then (s, reply .wrongState)
    else if tag = 0 then (s, reply .outOfRange)
    else if tag ≠ s.jobTag j then (s, reply .tagMismatch)
    else (s.mounted j, okWith (bPlan j.plan))

/-- MOUNT (R78). -/
def execMount (c : Caller) (job : BitVec 16) (tag : Tag) (s : State) : Host.Outcome State Fault Refusal :=
  State.event (State.submit (.mount c job tag) c (opMount job tag)) s

/-- The engine ARMED for a job's next station: the buffer cleared for it and the station timeout started (R51, R79). -/
def State.armed (s : State) (j : Job) : State :=
  { s with
    engine := { s.engine with phase := .armed s.settings.stationTimeout }
    capture := { s.capture with buffer :=
      { StationBuffer.empty with station := some { job := j.number, index := s.engine.nextStation } } } }

/-- ARM_STATION (R79). -/
def opArmStation (job : BitVec 16) (station : Byte) (s : State) : State × Reply :=
  match s.currentNumbered? job.toNat with
  | none => (s, reply .notCurrent)
  | some j =>
    if s.engine.phase ≠ .mounted ∧ s.engine.phase ≠ .stationDone then (s, reply .wrongState)
    else if station.toNat ≠ s.engine.nextStation then (s, reply .badStation)
    else (s.armed j, okWith [])

/-- ARM_STATION (R79). -/
def execArmStation (c : Caller) (job : BitVec 16) (station : Byte) (s : State) : Host.Outcome State Fault Refusal :=
  State.event (State.submit (.armStation c job station) c (opArmStation job station)) s

/-- ABORT_JOB (R83). -/
def opAbortJob (job : BitVec 16) (s : State) : State × Reply :=
  match s.currentNumbered? job.toNat with
  | none => (s, reply .notCurrent)
  | some j => (s.stopJob j .aborted, okWith [])

/-- ABORT_JOB (R83). -/
def execAbortJob (c : Caller) (job : BitVec 16) (s : State) : Host.Outcome State Fault Refusal :=
  State.event (State.submit (.abortJob c job) c (opAbortJob job)) s

/-! ### The result log (R86, R87) -/

/-- The 37 bytes of a result log entry (R85, R87). -/
def entryBytes (e : LogEntry) : List Byte :=
  b2 e.job ++ b1 e.kind.code ++ bOptRec e.record ++ bTag e.tag ++ b1 e.status.code ++ b1 e.flags.code ++
    b1 e.stations ++ bOpt 4 e.length ++ bOpt 4 e.radius ++ bOpt 4 e.runout ++ bOpt 4 e.hallTime

/-- GET_RESULT (R86). -/
def opGetResult (s : State) : State × Reply :=
  match s.log.getLast? with
  | none => (s, reply .none)
  | some e => ({ s with unread := false }, okWith (entryBytes e))

/-- GET_RESULT (R86). -/
def execGetResult (c : Caller) (s : State) : Host.Outcome State Fault Refusal :=
  State.event (State.submit (.getResult c) c opGetResult) s

/-- READ_RESULTS (R87). -/
def opReadResults (skip count : Byte) (s : State) : State × Reply :=
  if 31 < skip.toNat ∨ count.toNat = 0 ∨ 6 < count.toNat then (s, reply .outOfRange)
  else
    let es := (s.log.reverse.drop skip.toNat).take count.toNat
    (s, okWith (b1 es.length ++ es.flatMap entryBytes))

/-- READ_RESULTS (R87). -/
def execReadResults (c : Caller) (skip count : Byte) (s : State) : Host.Outcome State Fault Refusal :=
  State.event (State.submit (.readResults c skip count) c (opReadResults skip count)) s

end Sys2Proof.Machine
end

