-- ==== Sys2Proof/Machine/Polling.lean ====
section
/-! DEFINITION. CONDITION_POLL and SET_MASK (10), and SET_SETTING and GET_SETTING (11). -/

namespace Sys2Proof.Machine

/-! ### Conditions (R192, R193) -/

/-- The highest pending condition with its parameter, or NONE (R192). -/
def highestBytes : List Condition → List Byte
  | [] => b1 0 ++ bOpt 2 none
  | c :: _ => b1 c.code ++ bOpt 2 c.param

/-- The values of CONDITION_POLL (R192). -/
def pollBytes (s : State) (l : LinkId) : List Byte :=
  let cs := s.conditions l
  highestBytes cs ++ b1 cs.length ++ cs.flatMap (fun c => b1 c.code) ++ (s.link l).mask.flatMap bFlag

/-- CONDITION_POLL on a link (R192). -/
def opConditionPoll (l : LinkId) (s : State) : State × Reply := (s, okWith (pollBytes s l))

/-- CONDITION_POLL (R192). -/
def execConditionPoll (c : Caller) (s : State) : Host.Outcome State Fault Refusal :=
  State.event (State.submit (.conditionPoll c) c (opConditionPoll c.link)) s

/-- A SET_MASK is well formed: the count is the role's, the values are as many, and each is 0 or 1 (R193; log 21). -/
def maskGood (role : Role) (count : Byte) (enables : List Byte) : Bool :=
  decide (count.toNat = role.conditionCount) && decide (enables.length = count.toNat) &&
    enables.all (fun e => decide (e.toNat ≤ 1))

/-- SET_MASK on a link (R193). -/
def opSetMask (l : LinkId) (count : Byte) (enables : List Byte) (s : State) : State × Reply :=
  if maskGood (s.link l).role count enables then
    let mask := enables.map (fun e => e == 1)
    (s.changeLink l fun k => { k with mask := mask }, okWith (mask.flatMap bFlag))
  else (s, reply .outOfRange)

/-- SET_MASK (R193). -/
def execSetMask (c : Caller) (count : Byte) (enables : List Byte) (s : State) : Host.Outcome State Fault Refusal :=
  State.event (State.submit (.setMask c count enables) c (opSetMask c.link count enables)) s

/-! ### Stored settings (R208, R209) -/

/-- What a setting 9 to 16 does beyond its value: auto-calibrate turned on makes the check (R109), and a door
reference level that closes the door makes a pass and a round (R150). -/
def settingConsequence (before after : State) : State :=
  if before.settings.autoCal ≠ 1 ∧ after.settings.autoCal = 1 then after.autoCalCheck.settle false
  else if before.doorIsOpen && !after.doorIsOpen then after.settle true
  else after

/-- A setting of 9 to 16 written (R208). -/
def State.writeAtOnce (s : State) (i : SettingId) (v : Nat) : State :=
  settingConsequence s { s with settings := s.settings.put i v }

/-- The results of SET_SETTING: the setting number and the value as applied or parked (R208). DESIGN CHOICE (log 39):
the setting number takes one byte. -/
def settingResult (number v : Nat) : List Byte := b1 number ++ b4 v

/-- SET_SETTING (R208). -/
def opSetSetting (number : Byte) (value : BitVec 32) (s : State) : State × Reply :=
  match settingOf? number.toNat with
  | none => (s, reply .outOfRange)
  | some i =>
    let v := i.ranged value.toNat
    let clamped := v != value.toNat
    if i.isMeasurement then
      if s.engine.phase = .idle then (s.activate i v, okOrClamped clamped (settingResult number.toNat v))
      else ({ s with parked := s.parked.put i (some v) }, { code := .parked, results := settingResult number.toNat v })
    else (s.writeAtOnce i v, okOrClamped clamped (settingResult number.toNat v))

/-- SET_SETTING (R208). -/
def execSetSetting (c : Caller) (number : Byte) (value : BitVec 32) (s : State) : Host.Outcome State Fault Refusal :=
  State.event (State.submit (.setSetting c number value) c (opSetSetting number value)) s

/-- GET_SETTING (R209, R59). The setting number takes one byte (log 39). -/
def opGetSetting (number : Byte) (s : State) : State × Reply :=
  match settingOf? number.toNat with
  | none => (s, reply .outOfRange)
  | some i => (s, okWith (b1 number.toNat ++ b4 (s.settings.get i) ++ bOpt 4 (s.parked.get i)))

/-- GET_SETTING (R209). -/
def execGetSetting (c : Caller) (number : Byte) (s : State) : Host.Outcome State Fault Refusal :=
  State.event (State.submit (.getSetting c number) c (opGetSetting number)) s

end Sys2Proof.Machine
end

