-- ==== Sys2Proof/Machine/ReferenceUnit.lean ====
section
/-! DEFINITION. The reference unit's requests and times (06), the hall clock, and the retention-lost latch (10). -/

namespace Sys2Proof.Machine

/-! ### The gauge and the reference (R110 to R112) -/

/-- The gauge fields written, each brought into range (R110). -/
def Reference.setGauge (r : Reference) (tag : Tag) (length radius : BitVec 32) (stations samples : Byte) : Reference :=
  { r with
    gaugeTag := tag
    gaugeLen := clampLength maxLength length.toInt
    gaugeRad := clampLength maxRadius radius.toInt
    calStations := clamp 1 8 stations.toNat
    calSamples := rangeSamples samples.toNat }

/-- Whether a SET_GAUGE carried a value outside its range (R110). -/
def gaugeClamped (length radius : BitVec 32) (stations samples : Byte) : Bool :=
  (clampLength maxLength length.toInt : Int) != length.toInt ||
    (clampLength maxRadius radius.toInt : Int) != radius.toInt || clamp 1 8 stations.toNat != stations.toNat ||
    rangeSamples samples.toNat != samples.toNat

/-- SET_GAUGE (R110). -/
def opSetGauge (tag : Tag) (length radius : BitVec 32) (stations samples : Byte) (s : State) : State × Reply :=
  if s.hasCalibrate then (s, reply .busy)
  else
    (State.settle (State.autoCalCheck { s with reference := s.reference.setGauge tag length radius stations samples })
        false,
      okOrClamped (gaugeClamped length radius stations samples) [])

/-- SET_GAUGE (R110). -/
def execSetGauge (c : Caller) (tag : Tag) (length radius : BitVec 32) (stations samples : Byte) (s : State) :
    Host.Outcome State Fault Refusal :=
  State.event (State.submit (.setGauge c tag length radius stations samples) c
    (opSetGauge tag length radius stations samples)) s

/-- The values of READ_REFERENCE: the fields of R108 in their order, the stale indicator, and the three settings (R111). -/
def referenceBytes (s : State) : List Byte :=
  let r := s.reference
  bTag r.gaugeTag ++ b4 r.gaugeLen ++ b4 r.gaugeRad ++ bPlan r.plan ++ bFlag r.present ++ bCount r.zRef ++
    bCount r.xRef ++ b4 r.lRef ++ b4 r.rRef ++ bOpt 4 r.calTime ++ bOpt 4 r.validUntil ++ bFlag r.timePending ++
    b4 r.pendingAge ++ b1 r.lastOutcome.code ++ bOptInt 8 r.driftZ ++ bOptInt 8 r.driftX ++ bFlag s.stale ++
    b4 s.settings.calInterval ++ b4 s.settings.driftLimit ++ b4 s.settings.autoCal

/-- READ_REFERENCE (R111). -/
def opReadReference (s : State) : State × Reply := (s, okWith (referenceBytes s))

/-- READ_REFERENCE (R111). -/
def execReadReference (c : Caller) (s : State) : Host.Outcome State Fault Refusal :=
  State.event (State.submit (.readReference c) c opReadReference) s

/-- The reference made absent; the gauge fields, the last outcome and the last drifts are kept (R112). -/
def Reference.cleared (r : Reference) : Reference :=
  { r with present := false, zRef := 0, xRef := 0, lRef := 0, rRef := 0, calTime := none, validUntil := none,
           timePending := false, pendingAge := 0 }

/-- CLEAR_REFERENCE (R112). -/
def opClearReference (s : State) : State × Reply :=
  (State.settle (State.autoCalCheck { s with reference := s.reference.cleared }) false, okWith [])

/-- CLEAR_REFERENCE (R112). -/
def execClearReference (c : Caller) (s : State) : Host.Outcome State Fault Refusal :=
  State.event (State.submit (.clearReference c) c opClearReference) s

/-! ### Times (R118, R119, R197 to R199) -/

/-- The reference unit's one-second timer while time pending is set (R118). -/
def State.agePending (s : State) : State :=
  if s.reference.timePending then
    { s with reference := { s.reference with pendingAge := min maxSeconds (s.reference.pendingAge + 1) } }
  else s

/-- PENDING_AGE_TICK (R118). -/
def execPendingAgeTick (s : State) : Host.Outcome State Fault Refusal := State.event State.agePending s

/-- A pending calibration dated by the hall time `t`, with `v` seconds of use (R119). -/
def Reference.dated (r : Reference) (t v : Nat) : Reference :=
  if r.timePending then
    { r with
      calTime := some (t - r.pendingAge)
      validUntil := some (if r.pendingAge < v then min maxSeconds (t + (v - r.pendingAge)) else t)
      timePending := false
      pendingAge := 0 }
  else r

/-- The hall clock set, and a pending calibration dated (R198 steps 1 to 3). -/
def State.withTime (s : State) (t : Nat) : State :=
  { s with hall := { count := t, set := true }
           reference := s.reference.dated t (s.settings.calInterval * 3600) }

/-- SET_TIME, answered with the count and the set mark before the change (R198). -/
def opSetTime (seconds : BitVec 32) (s : State) : State × Reply :=
  (State.settle (State.autoCalCheck (s.withTime seconds.toNat)) false,
    okWith (b4 s.hall.count ++ bFlag s.hall.set))

/-- SET_TIME (R198). -/
def execSetTime (c : Caller) (seconds : BitVec 32) (s : State) : Host.Outcome State Fault Refusal :=
  State.event (State.submit (.setTime c seconds) c (opSetTime seconds)) s

/-- GET_TIME: the set mark and the count (R199). -/
def opGetTime (s : State) : State × Reply := (s, okWith (bFlag s.hall.set ++ b4 s.hall.count))

/-- GET_TIME (R199). -/
def execGetTime (c : Caller) (s : State) : Host.Outcome State Fault Refusal :=
  State.event (State.submit (.getTime c) c opGetTime) s

/-- The one-second timer of the hall clock expires: a set clock below its top advances, and the auto-calibrate check
is made when it comes to equal valid-until (R197). -/
def State.advanceHall (s : State) : State :=
  if s.hall.set && decide (s.hall.count < maxSeconds) then
    let s' := { s with hall := { s.hall with count := s.hall.count + 1 } }
    if s.reference.validUntil = some (s.hall.count + 1) then State.settle s'.autoCalCheck false else s'
  else s

/-- HALL_CLOCK_ADVANCE (R197). -/
def execHallClockAdvance (s : State) : Host.Outcome State Fault Refusal := State.event State.advanceHall s

/-! ### Retention lost (R196) -/

/-- CLEAR_RETENTION_LOST (R196). -/
def opClearRetentionLost (s : State) : State × Reply := ({ s with retentionLost := false }, okWith [])

/-- CLEAR_RETENTION_LOST (R196). -/
def execClearRetentionLost (c : Caller) (s : State) : Host.Outcome State Fault Refusal :=
  State.event (State.submit (.clearRetentionLost c) c opClearRetentionLost) s

end Sys2Proof.Machine
end

