-- ==== Sys2Proof/Machine/Sensors.lean ====
section
/-! DEFINITION. The capture unit (03): encoder counters, index, edge qualifier, guard line, station buffer, READ_AXES;
and the station timeout (R81). -/

namespace Sys2Proof.Machine

/-! ### Encoder counters (R41 to R43) -/

/-- What a change of phase is: its distance along the cycle of four (R42). -/
inductive PhaseChange where
  | same | up | down | illegal
  deriving DecidableEq, Repr

/-- The change from one place of the cycle to another (R42). -/
def phaseChange (before after : Fin 4) : PhaseChange :=
  if after = before then .same
  else if after = before + 1 then .up
  else if before = after + 1 then .down
  else .illegal

/-- Where an encoder's phases stand. -/
def Lines.phase (n : Lines) : Encoder → Fin 4
  | .z => n.zPhase
  | .x => n.xPhase
  | .a => n.aPhase

/-- An encoder's phases moved. -/
def Lines.setPhase (n : Lines) (e : Encoder) (p : Fin 4) : Lines :=
  match e with
  | .z => { n with zPhase := p }
  | .x => { n with xPhase := p }
  | .a => { n with aPhase := p }

/-- The greatest magnitude of the index span (R43). -/
def spanLimit : Int := 2147483647

/-- The index span, saturating (R43). -/
def clampSpan (v : Int) : Int := max (-spanLimit) (min spanLimit v)

/-- The next angle up, on a circle of `cpr` counts (R43). -/
def angleUp (cpr a : Nat) : Nat := if cpr ≤ a + 1 then 0 else a + 1

/-- The next angle down (R43). -/
def angleDown (cpr a : Nat) : Nat := if a = 0 then cpr - 1 else a - 1

/-- A legal step up (R41, R43). -/
def Capture.countUp (c : Capture) (cpr : Nat) : Encoder → Capture
  | .z => { c with z := c.z + 1 }
  | .x => { c with x := c.x + 1 }
  | .a => { c with a := angleUp cpr c.a, span := clampSpan (c.span + 1) }

/-- A legal step down (R41, R43). -/
def Capture.countDown (c : Capture) (cpr : Nat) : Encoder → Capture
  | .z => { c with z := c.z - 1 }
  | .x => { c with x := c.x - 1 }
  | .a => { c with a := angleDown cpr c.a, span := clampSpan (c.span - 1) }

/-- The glitch indicator of an encoder set (R42). -/
def Capture.markGlitch (c : Capture) : Encoder → Capture
  | .z => { c with glitchZ := true }
  | .x => { c with glitchX := true }
  | .a => { c with glitchA := true }

/-- An illegal step: the glitch indicator, and ENCODER_GLITCH by the engine's state (R42). -/
def State.illegalStep (s : State) (e : Encoder) : State :=
  let c := s.capture.markGlitch e
  match s.engine.phase with
  | .armed _ => { s with capture := { c with buffer := { c.buffer with glitch := true } } }
  | .mounted => { s with capture := c, engine := { s.engine with flags := { s.engine.flags with glitch := true } } }
  | .stationDone => { s with capture := c, engine := { s.engine with flags := { s.engine.flags with glitch := true } } }
  | .idle => { s with capture := c }
  | .offered => { s with capture := c }

/-- The phases of an encoder come to stand at `p` (R41 to R43). -/
def State.encoderStep (e : Encoder) (p : Fin 4) (s : State) : State :=
  let s' := { s with lines := s.lines.setPhase e p }
  match phaseChange (s.lines.phase e) p with
  | .same => s
  | .up => { s' with capture := s.capture.countUp s.settings.countsPerRev e }
  | .down => { s' with capture := s.capture.countDown s.settings.countsPerRev e }
  | .illegal => s'.illegalStep e

/-- ENCODER_STEP (R41, R42, R43). -/
def execEncoderStep (e : Encoder) (p : Fin 4) (s : State) : Host.Outcome State Fault Refusal :=
  State.event (State.encoderStep e p) s

/-! ### The index (R44, R45) -/

/-- The check of a revolution count (R44). -/
def indexCheck (pending : Bool) (count cpr : Nat) : IndexCheck :=
  if pending then .unchecked
  else if ((count : Int) - cpr).natAbs ≤ 2 then .passed
  else .slipped

/-- A DWELLING qualifier drops its latch and goes to HELD_ACTIVE (R45). -/
def Qualifier.dropLatch : Qualifier → Qualifier
  | .dwelling _ => .heldActive
  | .listening => .listening
  | .heldActive => .heldActive
  | .deadTime => .deadTime
  | .guarded => .guarded

/-- A SLIPPED check while ARMED discards the armed station's work (R45). -/
def State.slipDiscard (s : State) : State :=
  { s with
    capture := { s.capture with
      buffer := { s.capture.buffer with samples := [], angle := none }
      qualifier := s.capture.qualifier.dropLatch }
    engine := { s.engine with flags := { s.engine.flags with indexSlip := true } } }

/-- An index pulse (R44, R45). -/
def State.indexPulse (s : State) : State :=
  let count := s.capture.span.natAbs
  let result := indexCheck s.capture.checkPending count s.settings.countsPerRev
  let s' := { s with capture := { s.capture with
    a := 0, span := 0, revolution := some { count := count, result := result }, checkPending := false } }
  if result = .slipped ∧ s.engine.phase.isArmed then s'.slipDiscard else s'

/-- INDEX_PULSE (R44). -/
def execIndexPulse (s : State) : Host.Outcome State Fault Refusal := State.event State.indexPulse s

/-! ### The station buffer (R52 to R54) -/

/-- The difference of two angles, the shorter way round (R53). -/
def angleDistance (cpr a b : Nat) : Nat :=
  let d := ((a : Int) - b).natAbs
  if cpr < 2 * d then cpr - d else d

/-- Whether an offered sample is accepted against the station angle (R53). -/
def angleAccepted (t : Settings) (angle : Option Nat) (a : Nat) : Bool :=
  match angle with
  | none => true
  | some b => decide (angleDistance t.countsPerRev a b ≤ t.angleTol)

/-- The buffer with a sample accepted; the first fixes the angle (R53, R54). -/
def StationBuffer.accept (b : StationBuffer) (x : Sample) : StationBuffer :=
  { b with samples := b.samples ++ [x], angle := some (b.angle.getD x.a) }

/-- An offered sample judged: rejected, accepted, or accepted as the last of the station (R53, R54). -/
def State.judgeSample (s : State) (j : Job) (x : Sample) : State :=
  let b := s.capture.buffer
  if angleAccepted s.settings b.angle x.a then
    let b' := b.accept x
    let s' := { s with capture := { s.capture with buffer := b' } }
    if j.plan.samples ≤ b'.samples.length then s'.completeStation j false else s'
  else { s with capture := { s.capture with buffer := { b with rejected := true } } }

/-- The station the engine is ARMED for (R47, R52). -/
def State.armedStation? (s : State) : Option StationId :=
  if s.engine.phase.isArmed then s.currentJob?.map fun j => { job := j.number, index := s.engine.nextStation }
  else none

/-- A qualified sample offered to the station buffer: the station noted at its latch is the buffer's, and the engine
is ARMED for it (R52). -/
def State.offer (s : State) (h : Latch) : State :=
  match s.currentJob? with
  | none => s
  | some j =>
    if h.station.isSome ∧ h.station = s.capture.buffer.station ∧ h.station = s.armedStation? then
      s.judgeSample j h.sample
    else s

/-- A latched sample is qualified: it becomes the last qualified sample, the qualifier goes to HELD_ACTIVE, and it is
offered (R48). -/
def State.qualify (s : State) (h : Latch) : State :=
  State.offer { s with capture := { s.capture with lastSample := some h.sample, qualifier := .heldActive } } h

/-! ### The edge qualifier (R46 to R50) -/

/-- The counters as they stand, latched together, with the station armed at this instant (R47). -/
def State.latchNow (s : State) : Latch :=
  { sample := { z := s.capture.z, x := s.capture.x, a := s.capture.a }, station := s.armedStation? }

/-- The qualifier put in a state. -/
def State.setQualifier (s : State) (q : Qualifier) : State := { s with capture := { s.capture with qualifier := q } }

/-- The edge line goes active: with a dwell of 0 a latch is qualified at once (R47 to R50). -/
def State.edgeActive (s : State) : State :=
  if s.edgeIsActive then s
  else
    let s' := { s with lines := { s.lines with edgeLevel := s.settings.edgePolarity == 1 } }
    match s.capture.qualifier with
    | .listening =>
      if s.settings.dwell = 0 then s'.qualify s.latchNow else s'.setQualifier (.dwelling s.latchNow)
    | .deadTime => s'.setQualifier .heldActive
    | .dwelling _ => s'
    | .heldActive => s'
    | .guarded => s'

/-- EDGE_ACTIVE (R47). -/
def execEdgeActive (s : State) : Host.Outcome State Fault Refusal := State.event State.edgeActive s

/-- The edge line goes inactive: with a dead time of 0 the qualifier goes straight to LISTENING (R48 to R50). -/
def State.edgeInactive (s : State) : State :=
  if !s.edgeIsActive then s
  else
    let s' := { s with lines := { s.lines with edgeLevel := !(s.settings.edgePolarity == 1) } }
    match s.capture.qualifier with
    | .dwelling _ => s'.setQualifier .listening
    | .heldActive => if s.settings.deadTime = 0 then s'.setQualifier .listening else s'.setQualifier .deadTime
    | .listening => s'
    | .deadTime => s'
    | .guarded => s'

/-- EDGE_INACTIVE (R48, R49). -/
def execEdgeInactive (s : State) : Host.Outcome State Fault Refusal := State.event State.edgeInactive s

/-- The dwell time passes: the latched sample is qualified (R48; log 7). -/
def State.dwellEnd (s : State) : State :=
  match s.capture.qualifier with
  | .dwelling h => s.qualify h
  | .listening => s
  | .heldActive => s
  | .deadTime => s
  | .guarded => s

/-- DWELL_END (R48). -/
def execDwellEnd (s : State) : Host.Outcome State Fault Refusal := State.event State.dwellEnd s

/-- The dead time passes: the qualifier goes to LISTENING (R49; log 7). -/
def State.deadTimeEnd (s : State) : State :=
  match s.capture.qualifier with
  | .deadTime => s.setQualifier .listening
  | .listening => s
  | .dwelling _ => s
  | .heldActive => s
  | .guarded => s

/-- DEAD_TIME_END (R49). -/
def execDeadTimeEnd (s : State) : Host.Outcome State Fault Refusal := State.event State.deadTimeEnd s

/-- The guard line opens: GUARDED from whatever state (R50). -/
def State.guardOpens (s : State) : State :=
  if s.guardIsOpen then s
  else State.setQualifier { s with lines := { s.lines with guardLevel := !(s.settings.guardRef == 1) } } .guarded

/-- GUARD_OPENS (R50). -/
def execGuardOpens (s : State) : Host.Outcome State Fault Refusal := State.event State.guardOpens s

/-- The guard line closes: the qualifier takes its state from the edge line (R50). -/
def State.guardCloses (s : State) : State :=
  if s.guardIsOpen then
    State.requalify { s with lines := { s.lines with guardLevel := s.settings.guardRef == 1 } }
  else s

/-- GUARD_CLOSES (R50). -/
def execGuardCloses (s : State) : Host.Outcome State Fault Refusal := State.event State.guardCloses s

/-! ### The station timeout (R81) -/

/-- The station timeout expires: the station ends reduced, or the job ends NO_EDGE with the station's flags added
(R81; log 6, log 7). -/
def State.stationExpires (s : State) : State :=
  match s.currentJob? with
  | none => s
  | some j =>
    if !s.engine.phase.isArmed then s
    else if s.capture.buffer.samples = [] then
      State.stopJob { s with engine := { s.engine with flags := s.engine.flags.addStation s.capture.buffer } } j .noEdge
    else s.completeStation j true

/-- STATION_TIMEOUT (R81). -/
def execStationTimeout (s : State) : Host.Outcome State Fault Refusal := State.event State.stationExpires s

/-! ### READ_AXES (R61) -/

/-- The bytes of an optional sample: Z, X and A (R61). -/
def bOptSample : Option Sample → List Byte
  | none => b1 0 ++ leBytes 12 0
  | some x => b1 1 ++ b4 x.z.toNat ++ b4 x.x.toNat ++ b4 x.a

/-- The bytes of an optional station identity: job number and station index (R61). -/
def bOptStation : Option StationId → List Byte
  | none => b1 0 ++ leBytes 3 0
  | some i => b1 1 ++ b2 i.job ++ b1 i.index

/-- The bytes of a revolution record: the count and the check result, each with its marker (R61). -/
def bRevolution (r : Option Revolution) : List Byte :=
  bOpt 4 (r.map (·.count)) ++ bOpt 1 (r.map (·.result.code))

/-- The values of READ_AXES, in the order R61 lists them (log 18, log 24). -/
def axesBytes (s : State) : List Byte :=
  let c := s.capture
  b4 c.z.toNat ++ b4 c.x.toNat ++ b4 c.a ++ bCount c.span ++ bRevolution c.revolution ++ bFlag c.checkPending ++
    b1 c.qualifier.code ++ [Config.edgeLineCode s.edgeIsActive, Config.guardLineCode s.guardIsOpen] ++
    bOptSample c.lastSample ++ bFlag c.glitchZ ++ bFlag c.glitchX ++ bFlag c.glitchA ++
    bOptStation c.buffer.station ++ b1 c.buffer.samples.length ++ bOpt 4 c.buffer.angle ++ b1 c.buffer.flagsCode

/-- READ_AXES: the values, and the three glitch indicators cleared (R61). -/
def opReadAxes (s : State) : State × Reply :=
  ({ s with capture := { s.capture with glitchZ := false, glitchX := false, glitchA := false } }, okWith (axesBytes s))

/-- READ_AXES (R61). -/
def execReadAxes (c : Caller) (s : State) : Host.Outcome State Fault Refusal :=
  State.event (State.submit (.readAxes c) c opReadAxes) s

end Sys2Proof.Machine
end

