-- ==== Sys2Proof/Machine/Reception.lean ====
section
/-! DEFINITION. The link block (11): a frame judged and taken (R206, R207), the receiver (R205), the answer's end, the
break and the link reset (R211). -/

namespace Sys2Proof.Machine

/-! ### Judging a frame (R207) -/

/-- A decoded request goes to its owning rule (R207 step 5). Events are no requests and are never decoded. -/
def ownRule : Instr → State → State × Reply
  | .register _ r t k l d lt rt ru we f n m i v => opRegister r t k l d lt rt ru we f n m i v
  | .retire _ r => opRetire r
  | .release _ r => opRelease r
  | .resetLife _ r => opResetLife r
  | .reconcile _ r t p l m q => opReconcile r t p l m q
  | .addRecall _ t => opAddRecall t
  | .removeRecall _ t => opRemoveRecall t
  | .listRecall _ k n => opListRecall k n
  | .readRecord _ r f n => opReadRecord r f n
  | .openEdit c r f l m v => opOpenEdit c.link r f l m v
  | .editData c bytes => opEditData c.link bytes
  | .closeEdit c => opCloseEdit c.link
  | .abortEdit c => opAbortEdit c.link
  | .readAxes _ => opReadAxes
  | .measure c k r u m f n v => opMeasure c.link k r u m f n v
  | .cancelJob _ j => opCancelJob j
  | .listJobs _ => opListJobs
  | .getJob _ => opGetJob
  | .mount _ j t => opMount j t
  | .armStation _ j n => opArmStation j n
  | .abortJob _ j => opAbortJob j
  | .getResult _ => opGetResult
  | .readResults _ k n => opReadResults k n
  | .setGauge _ t l r n m => opSetGauge t l r n m
  | .readReference _ => opReadReference
  | .clearReference _ => opClearReference
  | .requestTool c m p k l u => opRequestTool c.link m p k l u
  | .withdrawTicket c t => opWithdrawTicket c.link t
  | .issueStatus c t => opIssueStatus c.link t
  | .listTickets c => opListTickets c.link
  | .fetchOrder _ => opFetchOrder
  | .orderDone _ o r => opOrderDone o r
  | .deposit _ t p => opDeposit t p
  | .listOrders _ => opListOrders
  | .fetchHandoff c => opFetchHandoff c.link
  | .confirmLoad c h t => opConfirmLoad c.link h t
  | .rejectHandoff c h => opRejectHandoff c.link h
  | .reportUsage c r a => opReportUsage c.link r a
  | .reportUnload c r => opReportUnload c.link r
  | .readHandoff c h => opReadHandoff c.link h
  | .listHandoffs c => opListHandoffs c.link
  | .conditionPoll c => opConditionPoll c.link
  | .setMask c n es => opSetMask c.link n es
  | .clearRetentionLost _ => opClearRetentionLost
  | .setTime _ t => opSetTime t
  | .getTime _ => opGetTime
  | .setSetting _ n v => opSetSetting n v
  | .getSetting _ n => opGetSetting n
  | .undefinedFunction .. => fun s => (s, reply .badFunction)
  | .frameReceived .. => fun s => (s, reply .badFunction)
  | .receiveGapTimeout .. => fun s => (s, reply .badFunction)
  | .answerSent .. => fun s => (s, reply .badFunction)
  | .linkBreak .. => fun s => (s, reply .badFunction)
  | .encoderStep .. => fun s => (s, reply .badFunction)
  | .indexPulse => fun s => (s, reply .badFunction)
  | .edgeActive => fun s => (s, reply .badFunction)
  | .edgeInactive => fun s => (s, reply .badFunction)
  | .dwellEnd => fun s => (s, reply .badFunction)
  | .deadTimeEnd => fun s => (s, reply .badFunction)
  | .guardOpens => fun s => (s, reply .badFunction)
  | .guardCloses => fun s => (s, reply .badFunction)
  | .stationTimeout => fun s => (s, reply .badFunction)
  | .doorOpens => fun s => (s, reply .badFunction)
  | .doorCloses => fun s => (s, reply .badFunction)
  | .dispenseTimeout .. => fun s => (s, reply .badFunction)
  | .loadTimeout .. => fun s => (s, reply .badFunction)
  | .editIdleTimeout .. => fun s => (s, reply .badFunction)
  | .hallClockAdvance => fun s => (s, reply .badFunction)
  | .pendingAgeTick => fun s => (s, reply .badFunction)
  | .start .. => fun s => (s, reply .badFunction)
  | .mainPowerLoss => fun s => (s, reply .badFunction)
  | .backupSupplyLoss => fun s => (s, reply .badFunction)
  | .characterReceived .. => fun s => (s, reply .badFunction)
  | .breakLineReturnsToMark .. => fun s => (s, reply .badFunction)

/-- A request whose function code and role are good: its parameter bytes judged, then its owning rule (R207 steps 4
and 5). -/
def judgeParams (l : LinkId) (f : Frame) (s : State) : State × Reply :=
  match decodeRequest { link := l, tagByte := f.tagByte } f.function.toNat f.params with
  | none => (s, reply .outOfRange)
  | some i => ownRule i s

/-- A taken frame judged (R207). -/
def judgeFrame (l : LinkId) (f : Frame) (s : State) : State × Reply :=
  if (s.link l).role = .disabled then (s, reply .roleRefused)
  else if isFunctionCode f.function.toNat then s.byRole l f.function.toNat (judgeParams l f)
  else (s, reply .badFunction)

/-- UNDEFINED_FUNCTION: a frame whose function code is not in the request table (R207 steps 1 and 2). With a code of
the table it is the frame of that request. -/
def State.undefinedFunction (c : Caller) (function : Byte) (params : List Byte) (s : State) : State :=
  if (s.link c.link).ignoring then s
  else
    let f : Frame := { function := function, tagByte := c.tagByte, params := params }
    (s.received c.link).handIn c.link f (judgeFrame c.link f)

/-- UNDEFINED_FUNCTION (R207). -/
def execUndefinedFunction (c : Caller) (function : Byte) (params : List Byte) (s : State) :
    Host.Outcome State Fault Refusal :=
  State.event (State.undefinedFunction c function params) s

/-! ### The receiver (R205) -/

/-- A body the length byte admits (R203, R205). -/
def bodyFits (body : List Byte) : Bool := decide (2 ≤ body.length) && decide (body.length ≤ 240)

/-- A frame completes: the receiver goes to HUNTING; a bad check discards the frame, and a good one hands it in
(R204 to R206). -/
def State.completeFrame (l : LinkId) (body : List Byte) (check : BitVec 16) (s : State) : State :=
  let s' := s.received l
  if bodyFits body && check == frameCheck (lengthByte body :: body) then
    match body with
    | function :: tagByte :: params =>
      let f : Frame := { function := function, tagByte := tagByte, params := params }
      s'.handIn l f (judgeFrame l f)
    | _ => s'
  else s'

/-- FRAME_RECEIVED: a frame completes on a line that is not ignored (R205, R206, R211; log 4). -/
def State.frameReceived (l : LinkId) (body : List Byte) (check : BitVec 16) (s : State) : State :=
  if (s.link l).ignoring then s else s.completeFrame l body check

/-- FRAME_RECEIVED (R205). -/
def execFrameReceived (l : LinkId) (body : List Byte) (check : BitVec 16) (s : State) :
    Host.Outcome State Fault Refusal :=
  State.event (State.frameReceived l body check) s

/-- The receiver put in a state, by a byte that ended any space. -/
def State.setReceiver (s : State) (l : LinkId) (r : Receiver) : State :=
  s.changeLink l fun k => { k with receiver := r, spaceChars := 0 }

/-- The check that two check bytes spell, high byte first (R203). -/
def checkOf : List Byte → BitVec 16
  | [hi, lo] => hi ++ lo
  | _ => 0

/-- A byte reaches a receiver (R205). -/
def State.receiveByte (l : LinkId) (b : Byte) (s : State) : State :=
  match (s.link l).receiver with
  | .hunting => s.setReceiver l (if b = syncByte then .length else .hunting)
  | .length => s.setReceiver l (if 2 ≤ b.toNat ∧ b.toNat ≤ 240 then .body b.toNat [] else .hunting)
  | .body n got =>
    let bytes := got ++ [b]
    if n + 2 ≤ bytes.length then s.completeFrame l (bytes.take n) (checkOf (bytes.drop n))
    else s.setReceiver l (.body n bytes)

/-- A character with a framing error: the partial frame is dropped (R201); a character of unbroken space counts
toward the break (R194, R211; log 23). -/
def State.framingError (l : LinkId) (data : Byte) (s : State) : State :=
  s.changeLink l fun k =>
    { k with receiver := .hunting, spaceChars := if data = 0 then min 2 (k.spaceChars + 1) else 0 }

/-- CHARACTER_RECEIVED (R201, R205, R211). -/
def State.characterReceived (l : LinkId) (data : Byte) (stopMark : Bool) (s : State) : State :=
  if (s.link l).ignoring then s else if stopMark then s.receiveByte l data else s.framingError l data

/-- CHARACTER_RECEIVED (R205). -/
def execCharacterReceived (l : LinkId) (data : Byte) (stopMark : Bool) (s : State) :
    Host.Outcome State Fault Refusal :=
  State.event (State.characterReceived l data stopMark) s

/-- A gap of more than 20 ms in a partial frame: the frame is discarded (R205). -/
def State.receiveGap (l : LinkId) (s : State) : State := s.changeLink l fun k => { k with receiver := .hunting }

/-- RECEIVE_GAP_TIMEOUT (R205). -/
def execReceiveGapTimeout (l : LinkId) (s : State) : Host.Outcome State Fault Refusal :=
  State.event (State.receiveGap l) s

/-! ### The end of an answer (R206) -/

/-- The last check byte of an answer leaves the link: the transmitter is idle, and the waiting frame, if any, is taken
(R206). -/
def State.answerSent (l : LinkId) (s : State) : State :=
  if (s.link l).tx.isNone then s
  else
    match (s.link l).waiting with
    | none => s.changeLink l fun k => { k with tx := none }
    | some f =>
      State.answer l f (judgeFrame l f (s.changeLink l fun k => { k with tx := none, waiting := none }))

/-- ANSWER_SENT (R206). -/
def execAnswerSent (l : LinkId) (s : State) : Host.Outcome State Fault Refusal := State.event (State.answerSent l) s

/-! ### The break (R211) -/

/-- A link as its reset leaves it: HUNTING and ignoring the line, nothing waiting, nothing sent, no edit, the mask all
on (R211). -/
def Link.broken (k : Link) : Link :=
  { k with receiver := .hunting, ignoring := true, spaceChars := 0, waiting := none, tx := none, edit := none,
           mask := List.replicate k.role.conditionCount true }

/-- What the reset of the PRESETTER link does to the engine: the current job aborted, then the unread flag cleared
(R88). -/
def State.presetterReset (s : State) : State := { s.abortCurrent with unread := false }

/-- The receive line has been at space for 10 ms: the link reset, once for each break (R211). -/
def State.linkBreak (l : LinkId) (s : State) : State :=
  if (s.link l).ignoring then s
  else
    let s' := s.changeLink l Link.broken
    if (s.link l).role = .presetter then s'.presetterReset else s'

/-- LINK_BREAK (R211). -/
def execLinkBreak (l : LinkId) (s : State) : Host.Outcome State Fault Refusal := State.event (State.linkBreak l) s

/-- The receive line returns to mark: the receiver heeds the line again (R211; log 23). -/
def State.lineToMark (l : LinkId) (s : State) : State :=
  s.changeLink l fun k => { k with ignoring := false, spaceChars := 0 }

/-- BREAK_LINE_RETURNS_TO_MARK (R211). -/
def execBreakLineReturnsToMark (l : LinkId) (s : State) : Host.Outcome State Fault Refusal :=
  State.event (State.lineToMark l) s

end Sys2Proof.Machine
end

