-- ==== Sys2Proof/Machine/Dispatch.lean ====
section
/-! DEFINITION. The meaning of every command: one arm per constructor of `Instr`, each one direct call. -/

namespace Sys2Proof.Machine

/-- The effect of a command on everything but the queue. -/
def exec (i : Instr) (s : State) : Host.Outcome State Fault Refusal :=
  match i with
  | .register c r tag cls nomLen nomRad lenTol radTol runout wear features stations samples lifeMode lifeInit => Sys2Proof.Machine.execRegister c r tag cls nomLen nomRad lenTol radTol runout wear features stations samples lifeMode lifeInit s
  | .retire c r => Sys2Proof.Machine.execRetire c r s
  | .release c r => Sys2Proof.Machine.execRelease c r s
  | .resetLife c r => Sys2Proof.Machine.execResetLife c r s
  | .reconcile c r target pocket link machine machinePocket => Sys2Proof.Machine.execReconcile c r target pocket link machine machinePocket s
  | .addRecall c tag => Sys2Proof.Machine.execAddRecall c tag s
  | .removeRecall c tag => Sys2Proof.Machine.execRemoveRecall c tag s
  | .listRecall c skip count => Sys2Proof.Machine.execListRecall c skip count s
  | .readRecord c r first count => Sys2Proof.Machine.execReadRecord c r first count s
  | .openEdit c r first last mode expected => Sys2Proof.Machine.execOpenEdit c r first last mode expected s
  | .editData c bytes => Sys2Proof.Machine.execEditData c bytes s
  | .closeEdit c => Sys2Proof.Machine.execCloseEdit c s
  | .abortEdit c => Sys2Proof.Machine.execAbortEdit c s
  | .readAxes c => Sys2Proof.Machine.execReadAxes c s
  | .measure c kind r urgent marker features stations samples => Sys2Proof.Machine.execMeasure c kind r urgent marker features stations samples s
  | .cancelJob c job => Sys2Proof.Machine.execCancelJob c job s
  | .listJobs c => Sys2Proof.Machine.execListJobs c s
  | .getJob c => Sys2Proof.Machine.execGetJob c s
  | .mount c job tag => Sys2Proof.Machine.execMount c job tag s
  | .armStation c job station => Sys2Proof.Machine.execArmStation c job station s
  | .abortJob c job => Sys2Proof.Machine.execAbortJob c job s
  | .getResult c => Sys2Proof.Machine.execGetResult c s
  | .readResults c skip count => Sys2Proof.Machine.execReadResults c skip count s
  | .setGauge c tag length radius stations samples => Sys2Proof.Machine.execSetGauge c tag length radius stations samples s
  | .readReference c => Sys2Proof.Machine.execReadReference c s
  | .clearReference c => Sys2Proof.Machine.execClearReference c s
  | .requestTool c machine machinePocket cls minLife priority => Sys2Proof.Machine.execRequestTool c machine machinePocket cls minLife priority s
  | .withdrawTicket c ticket => Sys2Proof.Machine.execWithdrawTicket c ticket s
  | .issueStatus c ticket => Sys2Proof.Machine.execIssueStatus c ticket s
  | .listTickets c => Sys2Proof.Machine.execListTickets c s
  | .fetchOrder c => Sys2Proof.Machine.execFetchOrder c s
  | .orderDone c order outcome => Sys2Proof.Machine.execOrderDone c order outcome s
  | .deposit c tag pocket => Sys2Proof.Machine.execDeposit c tag pocket s
  | .listOrders c => Sys2Proof.Machine.execListOrders c s
  | .fetchHandoff c => Sys2Proof.Machine.execFetchHandoff c s
  | .confirmLoad c handoff tag => Sys2Proof.Machine.execConfirmLoad c handoff tag s
  | .rejectHandoff c handoff => Sys2Proof.Machine.execRejectHandoff c handoff s
  | .reportUsage c r amount => Sys2Proof.Machine.execReportUsage c r amount s
  | .reportUnload c r => Sys2Proof.Machine.execReportUnload c r s
  | .readHandoff c handoff => Sys2Proof.Machine.execReadHandoff c handoff s
  | .listHandoffs c => Sys2Proof.Machine.execListHandoffs c s
  | .conditionPoll c => Sys2Proof.Machine.execConditionPoll c s
  | .setMask c count enables => Sys2Proof.Machine.execSetMask c count enables s
  | .clearRetentionLost c => Sys2Proof.Machine.execClearRetentionLost c s
  | .setTime c seconds => Sys2Proof.Machine.execSetTime c seconds s
  | .getTime c => Sys2Proof.Machine.execGetTime c s
  | .setSetting c number value => Sys2Proof.Machine.execSetSetting c number value s
  | .getSetting c number => Sys2Proof.Machine.execGetSetting c number s
  | .undefinedFunction c function params => Sys2Proof.Machine.execUndefinedFunction c function params s
  | .frameReceived link body check => Sys2Proof.Machine.execFrameReceived link body check s
  | .receiveGapTimeout link => Sys2Proof.Machine.execReceiveGapTimeout link s
  | .answerSent link => Sys2Proof.Machine.execAnswerSent link s
  | .linkBreak link => Sys2Proof.Machine.execLinkBreak link s
  | .encoderStep encoder phase => Sys2Proof.Machine.execEncoderStep encoder phase s
  | .indexPulse => Sys2Proof.Machine.execIndexPulse s
  | .edgeActive => Sys2Proof.Machine.execEdgeActive s
  | .edgeInactive => Sys2Proof.Machine.execEdgeInactive s
  | .dwellEnd => Sys2Proof.Machine.execDwellEnd s
  | .deadTimeEnd => Sys2Proof.Machine.execDeadTimeEnd s
  | .guardOpens => Sys2Proof.Machine.execGuardOpens s
  | .guardCloses => Sys2Proof.Machine.execGuardCloses s
  | .stationTimeout => Sys2Proof.Machine.execStationTimeout s
  | .doorOpens => Sys2Proof.Machine.execDoorOpens s
  | .doorCloses => Sys2Proof.Machine.execDoorCloses s
  | .dispenseTimeout order => Sys2Proof.Machine.execDispenseTimeout order s
  | .loadTimeout handoff => Sys2Proof.Machine.execLoadTimeout handoff s
  | .editIdleTimeout link => Sys2Proof.Machine.execEditIdleTimeout link s
  | .hallClockAdvance => Sys2Proof.Machine.execHallClockAdvance s
  | .pendingAgeTick => Sys2Proof.Machine.execPendingAgeTick s
  | .start pins => Sys2Proof.Machine.execStart pins s
  | .mainPowerLoss => Sys2Proof.Machine.execMainPowerLoss s
  | .backupSupplyLoss => Sys2Proof.Machine.execBackupSupplyLoss s
  | .characterReceived link data stopMark => Sys2Proof.Machine.execCharacterReceived link data stopMark s
  | .breakLineReturnsToMark link => Sys2Proof.Machine.execBreakLineReturnsToMark link s

end Sys2Proof.Machine
end

