-- ==== Sys2Proof/Safety.lean ====
section
/-! DEFINITION. The terms claims are stated in: when a caller's request is taken, what the answered state is, and the
invariants of the part. -/

namespace Sys2Proof.Machine

/-! ### Requests and answers -/

/-- A request with a function code is taken at once from a caller: main power is up, the caller's receiver heeds its
line, no frame waits, the transmitter is idle, and the request is open to the link's role (R206, R207). -/
structure State.Takes (s : State) (c : Caller) (code : Nat) : Prop where
  up    : s.mainUp = true
  heeds : (s.link c.link).ignoring = false
  empty : (s.link c.link).waiting = none
  idle  : (s.link c.link).tx = none
  opens : roleAllows code (s.link c.link).role = true

/-- A state with an answer going out to a caller, the attention lines judged (R195, R203, R206). -/
def State.answered (t : State) (c : Caller) (code : Nat) (outcome : ReplyCode) (results : List Byte) : State :=
  State.judgeAttention (t.changeLink c.link fun k =>
    { k with tx := some { function := BitVec.ofNat 8 (code + 0x80), tagByte := c.tagByte, code := outcome,
                          results := results } })

/-! ### Invariants -/

/-- A link is quiet: its receiver holds no partial frame of two or more bytes, no frame waits, no answer is being sent,
and no break has reached its second character time (R194). -/
structure Link.IsQuiet (k : Link) : Prop where
  receiver : ∀ n got, k.receiver ≠ .body n got
  waiting  : k.waiting = none
  tx       : k.tx = none
  space    : k.spaceChars < 2

/-- While main power is up, an attention line is driven exactly when its link is quiet and a condition is both pending
and enabled on it (R195). The mask holds the enables in the order of the condition codes, which start at 1 (R186). -/
def State.AttentionJudged (s : State) : Prop :=
  s.mainUp = true → ∀ l, ((s.link l).attention = true ↔
    (s.link l).IsQuiet ∧ ∃ d ∈ s.conditions l, (s.link l).mask[d.code - 1]? = some true)

/-- No record's life remaining exceeds its life initial (R8). -/
def State.LifeBounded (s : State) : Prop := ∀ n, (s.tool n).lifeRem ≤ (s.tool n).lifeInit

/-- The collections are within their sizes (R18, R62, R85, R122, R144). -/
structure State.WithinSizes (s : State) : Prop where
  recalls : s.recalls.length ≤ 64
  jobs    : s.jobs.length ≤ 16
  log     : s.log.length ≤ 32
  tickets : s.tickets.length ≤ 32
  orders  : s.orders.length ≤ 16

/-- Urgent jobs stand ahead of normal ones, and urgent tickets too (R62, R122). -/
def State.UrgentFirst (s : State) : Prop :=
  s.jobs.Pairwise (fun a b => b.urgent = true → a.urgent = true) ∧
    s.tickets.Pairwise (fun a b => b.urgent = true → a.urgent = true)

/-- The handoff table and the DISPENSING tickets together are at most 64 (R166). What keeps it so: no two tickets have
one number (R124), the ticket of each DISPENSE_TO_CELL order is in the queue and DISPENSING, and no two such orders
are for one ticket (R135, R145). -/
structure State.Reserved (s : State) : Prop where
  fits    : s.tickets.countP (fun t => t.phase.isDispensing) + s.handoffs.length ≤ 64
  numbers : (s.tickets.map (·.number)).Nodup
  linked  : ∀ o ∈ s.orders, ∀ n, o.link = .cell n → ∃ t ∈ s.tickets, t.number = n ∧ ∃ r, t.phase = .dispensing r
  single  : s.orders.Pairwise fun o q => ∀ n, o.link = .cell n → q.link ≠ .cell n

/-- No job's prior state is EMPTY: MOUNT saves the state of a record that carries a tag (R63, R78, R105). -/
def State.PriorsProper (s : State) : Prop := ∀ j ∈ s.jobs, j.prior ≠ some .empty

/-- The recall list is a set of nonzero tags (R18). -/
def State.RecallsProper (s : State) : Prop := s.recalls.Nodup ∧ 0 ∉ s.recalls

/-- A value lies within a setting's range. -/
def SettingId.Admits (i : SettingId) (v : Nat) : Prop := i.range.1 ≤ v ∧ v ≤ i.range.2

/-- Every active value and every parked slot lies within its setting's range, and A names an angle on the circle
(R43, R55, R57, R208). -/
structure State.SettingsRanged (s : State) : Prop where
  active : ∀ i : SettingId, i.Admits (s.settings.get i)
  parked : ∀ (i : SettingId) (v : Nat), s.parked.get i = some v → i.Admits v
  angle  : s.capture.a < s.settings.countsPerRev

/-- An EMPTY record's tag is 0, and no two records carry one tag (R2, R7). -/
def State.TagsProper (s : State) : Prop :=
  (∀ n, (s.tool n).state = .empty → (s.tool n).tag = 0) ∧
    ∀ m n, (s.tool m).tag ≠ 0 → (s.tool m).tag = (s.tool n).tag → m = n

/-- No two records stand in one crib pocket (R6). -/
def State.PocketsSingle (s : State) : Prop :=
  ∀ (m n : RecNo) (p : Fin 240), (s.tool m).loc = .crib p → (s.tool n).loc = .crib p → m = n

/-- One link at most is PRESETTER and one at most is CRIB (R200). -/
def State.RolesSingle (s : State) : Prop :=
  ∀ l m : LinkId, (s.link l).role.single = true → (s.link l).role = (s.link m).role → l = m

/-- The hall clock's count is 0 while its mark is clear, and never above its top (R197). -/
def State.HallProper (s : State) : Prop := (s.hall.set = false → s.hall.count = 0) ∧ s.hall.count ≤ maxSeconds

/-! ### Commands in turn -/

/-- Commands run one after another, stopping at a fault or a refusal. -/
def runAll : List Instr → State → Host.Outcome State Fault Refusal
  | [], s => .next s
  | c :: cs, s =>
    match exec c s with
    | .next t => runAll cs t
    | .fault r => .fault r
    | .refused r => .refused r

end Sys2Proof.Machine
end

