-- ==== Sys2Proof/Certificates/Slice0/Obligations.lean ====
section
/-! DEFINITION. The statements for the provers. In each result statement `t` is the state with the caller's receiver
back in HUNTING (`State.received`), and `answered` puts the answer into the caller's transmitter and judges the
attention lines: the equation says every other part of the state, so it is the frame as well. -/

open Sys2Proof Sys2Proof.Machine

/-! ### The queue and power -/

/-- The block's step: the command at the front of the queue runs with the queue's rest. -/
def Obligations.StepRunsTheFrontCommand : Prop :=
  ∀ (c : Instr) (rest : List Instr) (s : State), s.pending = c :: rest → step s = exec c { s with pending := rest }

/-- On an empty queue a second passes: every dispense timer, load timer, station timeout and edit idle timer has one
second less, and nothing else changes. The model's choice (log 5). -/
def Obligations.EmptyQueuePassesOneSecond : Prop :=
  ∀ s : State, s.pending = [] →
    (s.mainUp = true → step s = .next { s with
      orders := s.orders.map fun o =>
        match o.phase with
        | .released => o
        | .fetched left => { o with phase := .fetched (left - 1) }
      handoffs := s.handoffs.map fun h =>
        match h.phase with
        | .staged => h
        | .offered left => { h with phase := .offered (left - 1) }
      engine := match s.engine.phase with
        | .armed left => { s.engine with phase := .armed (left - 1) }
        | _ => s.engine
      links := s.links.map fun k => { k with edit := k.edit.map fun e => { e with idleLeft := e.idleLeft - 1 } } }) ∧
    (s.mainUp = false → step s = .next s)

/-- Every command answers a next state. While main power is down no command but a start and the loss of the backup
supply changes anything (R212; the frozen state is the model's choice, log 9). The main supply falls; the backup
supply's fall sets the loss mark while the main supply is down, and not while it is up (log 10). -/
def Obligations.PowerGatesEveryCommand : Prop :=
  ∀ s : State,
    (∀ c, ∃ t, exec c s = .next t) ∧
    (s.mainUp = false → ∀ c, (∀ p, c ≠ .start p) → c ≠ .backupSupplyLoss → exec c s = .next s) ∧
    exec .mainPowerLoss s = .next { s with mainUp := false } ∧
    (s.mainUp = false → exec .backupSupplyLoss s = .next { s with lossMark := true }) ∧
    (s.mainUp = true → exec .backupSupplyLoss s = .next s)

/-- A cold start (R213, with R23, R121, R186, R196, R197): every part of the state has its cold or start value, the
roles and rates are the straps', the lines stand as the pins show them, and the queue is kept. Phases 0 of the cycle
and the pins are the command's operands (log 2); that the rate straps are named second first is its reading (log 41). -/
def Obligations.ColdStartClearsThePart : Prop :=
  ∀ (s : State) (p : Pins), s.lossMark = true →
    exec (.start p) s = .next (State.judgeAttention { s with
      mainUp := true, lossMark := false
      lines := { zPhase := p.zPhase, xPhase := p.xPhase, aPhase := p.aPhase, edgeLevel := p.edge,
                 guardLevel := p.guardLine, doorLevel := p.door }
      links := #v[Link.started (startRole p 0) (strappedRate p.rateStraps[0]),
        Link.started (startRole p 1) (strappedRate p.rateStraps[1]),
        Link.started (startRole p 2) (strappedRate p.rateStraps[2]),
        Link.started (startRole p 3) (strappedRate p.rateStraps[3])]
      records := Vector.replicate 512 ToolRecord.blank, recalls := []
      capture := { Capture.started with
        qualifier := if p.guardLine then .guarded else if p.edge then .heldActive else .listening }
      settings := Settings.defaults, parked := Parked.empty, jobs := [], nextJob := 1, engine := Engine.idle
      log := [], unread := false, reference := Reference.cold, tickets := [], nextTicket := 1, orders := []
      nextOrder := 1, handoffs := [], nextHandoff := 1, hall := { count := 0, set := false }, retentionLost := true })

/-- A warm start, whole (R213): the retained settings with their parked values applied and the slots emptied (R210, R60),
the recall list and the retention latch kept (R196), the reference kept with no date pending (R121), the links with the
roles and rates of their straps (R200, R201), the capture unit started with its qualifier taken from the lines (R61,
R46), every collection empty, the clock unset, and the auto-calibrate check with the engine's choice after it (R114,
R75). Each record is repaired by the table of R24 and no other changes: the version rises by one at a repair, and a
measured record's location is PRESETTER. The pins are the command's operands (log 2), a start while main power is up
runs in full (log 8), and the rate straps are named second first (log 41): the model's readings. -/
def Obligations.WarmStartRepairsTheTable : Prop :=
  ∀ (s : State) (p : Pins), s.lossMark = false →
    let strap (l : LinkId) : BitVec 2 := p.roleStraps[l]
    let role (l : LinkId) : Role :=
      if strap l = 2 then .cell else if strap l = 3 then .supervisor
      else if ∃ m, m < l ∧ strap m = strap l then .disabled
      else if strap l = 0 then .presetter else .crib
    let rate (l : LinkId) : Rate :=
      if p.rateStraps[l] = 0 then .r9600 else if p.rateStraps[l] = 1 then .r19200
      else if p.rateStraps[l] = 2 then .r38400 else .r115200
    let set : Settings := { s.settings with
      dwell := s.parked.dwell.getD s.settings.dwell, deadTime := s.parked.deadTime.getD s.settings.deadTime
      angleTol := s.parked.angleTol.getD s.settings.angleTol
      countsPerRev := s.parked.countsPerRev.getD s.settings.countsPerRev
      zScale := s.parked.zScale.getD s.settings.zScale, xScale := s.parked.xScale.getD s.settings.xScale
      edgePolarity := s.parked.edgePolarity.getD s.settings.edgePolarity
      guardRef := s.parked.guardRef.getD s.settings.guardRef }
    let ref := s.reference
    let due : Bool := decide (s.settings.autoCal = 1 ∧ ref.gaugeTag ≠ 0 ∧
      (ref.present = false ∨ ref.lastOutcome ≠ .driftRejected))
    let j : Job :=
      { number := 1, kind := .calibrate, record := none
        plan := { features := .both, stations := ref.calStations, samples := ref.calSamples }
        origin := .autoCal, urgent := true, prior := none, phase := .current }
    ∃ u, exec (.start p) s = .next u ∧
      u = { s with
        mainUp := true
        lines := { zPhase := p.zPhase, xPhase := p.xPhase, aPhase := p.aPhase, edgeLevel := p.edge
                   guardLevel := p.guardLine, doorLevel := p.door }
        links := u.links, records := u.records
        capture := { Capture.started with
          qualifier := if p.guardLine ≠ (set.guardRef == 1) then .guarded
            else if p.edge = (set.edgePolarity == 1) then .heldActive else .listening }
        settings := set, parked := Parked.empty
        jobs := if due then [j] else [], nextJob := if due then 2 else 1
        engine := if due then { Engine.idle with phase := .offered } else Engine.idle
        log := [], unread := false, reference := { ref with timePending := false, pendingAge := 0 }
        tickets := [], nextTicket := 1, orders := [], nextOrder := 1, handoffs := [], nextHandoff := 1
        hall := { count := 0, set := false } } ∧
      (∀ l, u.link l = { Link.started (role l) (rate l) with attention := (u.link l).attention }) ∧ u.AttentionJudged ∧
      ∀ n : RecNo,
        let r := s.tool n
        let lost := { r with state := .check, loc := .unknown, lastFault := .tagLost, version := r.version + 1 }
        ((r.state = .allocated ∨ r.state = .inTransit) → u.tool n = lost) ∧
        (r.state = .measuring → u.tool n =
          { r with state := if r.recalled then .quarantine else .presetDue, loc := .presetter
                   version := r.version + 1 }) ∧
        ((r.state = .presetDue ∨ r.state = .ready) → r.recalled = true →
          u.tool n = { r with state := .quarantine, version := r.version + 1 }) ∧
        ((r.state = .presetDue ∨ r.state = .ready) → r.recalled = false → u.tool n = r) ∧
        (∀ q, r.state = .inMachine → r.loc = .machine q →
          u.tool n = if (u.link q.link).role = .cell then r else lost) ∧
        ((r.state = .empty ∨ r.state = .returning ∨ r.state = .quarantine ∨ r.state = .worn ∨ r.state = .check) →
          u.tool n = r)

/-- What reset leaves (the values the spec gives for a cold start, R23, R62, R85, R121, R122, R144, R166, R197, R196;
the straps, the lines and the phases are the model's choice, log 1). -/
def Obligations.ResetIsAColdStart : Prop :=
  ∀ s : State, s.lossMark = true → s.pending = [] →
    exec (.start { roleStraps := #v[0, 1, 2, 3], rateStraps := #v[0, 0, 0, 0], edge := false, guardLine := false,
                   door := false, zPhase := 0, xPhase := 0, aPhase := 0 }) s = .next State.reset

/-! ### Tool records (01) -/

/-- REGISTER in an EMPTY record with a free tag: every field of the new record, its values brought into range, and
the answer (R13, R4, R21). -/
def Obligations.RegisterMakesAToolRecord : Prop :=
  ∀ (s : State) (c : Caller) (n : RecNo) (num : BitVec 16) (tag : Tag) (cls : BitVec 16) (nl nr : BitVec 32)
    (lt rt ru we : BitVec 16) (f st sa m : Byte) (li : BitVec 24),
    s.Takes c 0x01 → num.toNat = n.val → tag ≠ 0 → (s.tool n).state = .empty →
    (∀ k, (s.tool k).state ≠ .empty → (s.tool k).tag ≠ tag) →
    exec (.register c num tag cls nl nr lt rt ru we f st sa m li) s = .next (State.answered
      ((s.received c.link).setTool n
        { state := if tag ∈ s.recalls then .quarantine else .presetDue
          version := (s.tool n).version + 1, tag := tag, cls := max 1 (min 4095 cls.toNat), loc := .presetter
          nomLen := min 9999999 nl.toInt.toNat, nomRad := min 1999999 nr.toInt.toNat
          lenTol := lt.toNat, radTol := rt.toNat, runoutLimit := ru.toNat, wearLimit := we.toNat
          plan := { features := if f.toNat ≤ 1 then .length else if f.toNat = 2 then .radius else .both
                    stations := max 1 (min 8 st.toNat)
                    samples := if 8 ≤ sa.toNat then 8 else if 4 ≤ sa.toNat then 4 else if 2 ≤ sa.toNat then 2 else 1 }
          lifeMode := if m.toNat = 0 then .seconds else .parts, lifeInit := li.toNat, lifeRem := li.toNat
          presetLen := none, presetRad := none, presetJob := none, presetTime := none
          recalled := decide (tag ∈ s.recalls), damaged := false, lastFault := .none, lastVerdict := .none })
      c 0x01
      (if (1 ≤ cls.toNat ∧ cls.toNat ≤ 4095) ∧ (0 ≤ nl.toInt ∧ nl.toInt ≤ 9999999) ∧
          (0 ≤ nr.toInt ∧ nr.toInt ≤ 1999999) ∧ (1 ≤ f.toNat ∧ f.toNat ≤ 3) ∧ (1 ≤ st.toNat ∧ st.toNat ≤ 8) ∧
          (sa.toNat = 1 ∨ sa.toNat = 2 ∨ sa.toNat = 4 ∨ sa.toNat = 8) ∧ m.toNat ≤ 1
        then .ok else .okClamped)
      (b1 (if tag ∈ s.recalls then 8 else 1) ++ b2 ((s.tool n).version + 1).toNat))

/-- RETIRE returns a record's fields to their EMPTY values with the version one higher. A job that is WAITING, or
FETCHING with its order RELEASED, is removed with its order in the same change (R14, R69, R155). The answer's state
byte is the model's reading (log 16); so is what follows a withdrawal (log 12). -/
def Obligations.RetireEmptiesTheRecord : Prop :=
  ∀ (s : State) (c : Caller) (n : RecNo) (num : BitVec 16),
    s.Takes c 0x02 → num.toNat = n.val →
    ((s.tool n).state = .presetDue ∨ (s.tool n).state = .ready ∨ (s.tool n).state = .quarantine ∨
      (s.tool n).state = .worn ∨ (s.tool n).state = .check) →
    let t := s.received c.link
    let blank := { ToolRecord.blank with version := (s.tool n).version + 1 }
    let results := b1 0 ++ b2 ((s.tool n).version + 1).toNat
    (s.jobOf? n = none →
      exec (.retire c num) s = .next (State.answered (t.setTool n blank) c 0x02 .ok results)) ∧
    (∀ j, s.jobOf? n = some j →
      (j.phase = .waiting ∨ ∃ o q, j.phase = .fetching o ∧ s.order? o = some q ∧ q.phase = .released) →
      exec (.retire c num) s = .next (State.answered (t.withdrawJob (t.setTool n blank) j) c 0x02 .ok results))

/-- RELEASE takes an unrecalled QUARANTINE record without a job to PRESET_DUE and clears DAMAGED (R15); RESET_LIFE
returns a WORN record to service (R16, R21). -/
def Obligations.ReleaseAndResetLifeReturnTools : Prop :=
  ∀ (s : State) (c : Caller) (n : RecNo) (num : BitVec 16), num.toNat = n.val →
    let t := s.received c.link
    let r := s.tool n
    (s.Takes c 0x03 → r.state = .quarantine → r.recalled = false → s.jobOf? n = none →
      exec (.release c num) s = .next (State.answered
        (t.setTool n { r with state := .presetDue, damaged := false, version := r.version + 1 }) c 0x03 .ok
        (b1 1 ++ b2 (r.version + 1).toNat))) ∧
    (s.Takes c 0x04 → r.state = .worn →
      exec (.resetLife c num) s = .next (State.answered
        (t.setTool n { r with
          state := if r.recalled then .quarantine else .presetDue, lifeRem := r.lifeInit, presetLen := none
          presetRad := none, presetJob := none, presetTime := none, version := r.version + 1 }) c 0x04 .ok
        (b1 (if r.recalled then 8 else 1) ++ b2 (r.version + 1).toNat)))

/-- RECONCILE places a CHECK tool at each of its four targets (R17, R6, R21). -/
def Obligations.ReconcilePlacesTheTool : Prop :=
  ∀ (s : State) (c : Caller) (n : RecNo) (num : BitVec 16) (pocket link machine mp : Byte),
    s.Takes c 0x05 → num.toNat = n.val → (s.tool n).state = .check →
    let t := s.received c.link
    let r := s.tool n
    let due : RecState := if r.recalled then .quarantine else .presetDue
    let done (st : RecState) (loc : Location) : State := State.answered
      (t.setTool n { r with state := st, loc := loc, version := r.version + 1 }) c 0x05 .ok
      (b1 st.code ++ b2 (r.version + 1).toNat)
    (∀ p : Fin 240, pocket.toNat = p.val → (∀ k, k ≠ n → (s.tool k).loc ≠ .crib p) →
      exec (.reconcile c num 0 pocket link machine mp) s = .next (done due (.crib p))) ∧
    exec (.reconcile c num 1 pocket link machine mp) s = .next (done due .presetter) ∧
    exec (.reconcile c num 2 pocket link machine mp) s = .next (done .returning .transit) ∧
    (∀ l : LinkId, link.toNat = l.val → (s.link l).role = .cell → machine.toNat ≤ 63 → 1 ≤ mp.toNat → mp.toNat ≤ 250 →
      exec (.reconcile c num 3 pocket link machine mp) s =
        .next (done .inMachine (.machine { link := l, machine := machine.toNat, pocket := mp.toNat })))

/-- ADD_RECALL puts a tag on the list and marks the record carrying it; a PRESET_DUE or READY record without a job
goes to QUARANTINE (R19, R20). REMOVE_RECALL takes a tag off and clears RECALLED on the record carrying it, whose
state and location stay (R22). That an answer which changes nothing carries the same results (log 28), and that the
answers carry no version though R11 says that answers report it (log 17), are the model's choices. -/
def Obligations.RecallsMarkTheRecord : Prop :=
  ∀ (s : State) (c : Caller) (tag : Tag), tag ≠ 0 →
    let t := s.received c.link
    let u : State := { t with recalls := s.recalls ++ [tag] }
    let v : State := { t with recalls := s.recalls.filter (fun g => g != tag) }
    (s.Takes c 0x06 → tag ∈ s.recalls → s.holder? tag = none →
      exec (.addRecall c tag) s = .next (t.answered c 0x06 .ok (b1 0 ++ b2 0 ++ b1 0))) ∧
    (∀ n, s.Takes c 0x06 → tag ∈ s.recalls → s.holder? tag = some n →
      exec (.addRecall c tag) s =
        .next (t.answered c 0x06 .ok (b1 1 ++ b2 n.val ++ b1 (s.tool n).state.code))) ∧
    (s.Takes c 0x06 → tag ∉ s.recalls → s.recalls.length < 64 → s.holder? tag = none →
      exec (.addRecall c tag) s = .next (u.answered c 0x06 .ok (b1 0 ++ b2 0 ++ b1 0))) ∧
    (∀ n, s.Takes c 0x06 → tag ∉ s.recalls → s.recalls.length < 64 → s.holder? tag = some n → (s.tool n).recalled = false →
      ((s.tool n).state = .measuring ∨ (s.tool n).state = .inTransit ∨ (s.tool n).state = .inMachine ∨
        (s.tool n).state = .returning ∨ (s.tool n).state = .quarantine ∨ (s.tool n).state = .worn ∨
        (s.tool n).state = .check) →
      exec (.addRecall c tag) s = .next (State.answered
        (u.setTool n { s.tool n with recalled := true, version := (s.tool n).version + 1 }) c 0x06 .ok
        (b1 1 ++ b2 n.val ++ b1 (s.tool n).state.code))) ∧
    (∀ n, s.Takes c 0x06 → tag ∉ s.recalls → s.recalls.length < 64 → s.holder? tag = some n → s.jobOf? n = none →
      ((s.tool n).state = .presetDue ∨ (s.tool n).state = .ready) →
      exec (.addRecall c tag) s = .next (State.answered
        (u.setTool n { s.tool n with recalled := true, state := .quarantine, version := (s.tool n).version + 1 })
        c 0x06 .ok (b1 1 ++ b2 n.val ++ b1 8))) ∧
    (s.Takes c 0x07 → tag ∈ s.recalls → s.holder? tag = none →
      exec (.removeRecall c tag) s = .next (v.answered c 0x07 .ok (b1 0 ++ b2 0 ++ b1 0))) ∧
    (∀ n, s.Takes c 0x07 → tag ∈ s.recalls → s.holder? tag = some n → (s.tool n).recalled = true →
      exec (.removeRecall c tag) s = .next (State.answered
        (v.setTool n { s.tool n with recalled := false, version := (s.tool n).version + 1 }) c 0x07 .ok
        (b1 1 ++ b2 n.val ++ b1 (s.tool n).state.code))) ∧
    (∀ n, s.Takes c 0x07 → tag ∉ s.recalls → s.holder? tag = some n →
      exec (.removeRecall c tag) s =
        .next (t.answered c 0x07 .ok (b1 1 ++ b2 n.val ++ b1 (s.tool n).state.code)))

/-- ADD_RECALL on a record with work before it, the rows of R20 that have a job or an order. A job WAITING, FETCHING with
its order RELEASED, or OFFERED leaves the queue, its RELEASED order leaves the list, the offering engine is IDLE with
the parked values applied, and the auto-calibrate check is made (R69, R155, R58); the record is QUARANTINE where it
stands. With the order FETCHED the record keeps its state and the job and the order go on. An ALLOCATED record's
RELEASED order leaves the list and the ticket is WAITING at the head of its section, its attempts kept; with the order
FETCHED only RECALLED is set. A pass follows where R69 or R130 prompts one, then the round and the choice. That order
(log 12) and the answer without a version (log 17, though R11 says that answers report it) are the model's choices. -/
def Obligations.AddRecallWithdrawsTheWork : Prop :=
  ∀ (s : State) (c : Caller) (tag : Tag) (n : RecNo), s.Takes c 0x06 → tag ≠ 0 → tag ∉ s.recalls →
    s.recalls.length < 64 → s.holder? tag = some n →
    let r := s.tool n
    let u : State := { s.received c.link with recalls := s.recalls ++ [tag] }
    let held : State := u.setTool n { r with recalled := true, state := .quarantine, version := r.version + 1 }
    let marked : State := u.setTool n { r with recalled := true, version := r.version + 1 }
    let done (v : State) (st : RecState) : State := State.answered v c 0x06 .ok (b1 1 ++ b2 n.val ++ b1 st.code)
    (∀ j, (r.state = .presetDue ∨ r.state = .ready) → s.jobOf? n = some j →
      let left : State := { held with jobs := s.jobs.filter (fun k => k.number != j.number) }
      (j.phase = .waiting →
        exec (.addRecall c tag) s =
          .next (done (left.autoCalCheck.settle (j.urgent && r.loc.isCrib)) .quarantine)) ∧
      (∀ o q, j.phase = .fetching o → s.order? o = some q → q.phase = .released →
        exec (.addRecall c tag) s = .next (done (State.settle
          (State.autoCalCheck { left with orders := s.orders.filter (fun w => w.number != o) }) true) .quarantine)) ∧
      (j.phase = .current → s.engine.phase = .offered →
        exec (.addRecall c tag) s = .next (done (State.settle
          (State.autoCalCheck (State.applyParked { left with engine := Engine.idle })) false) .quarantine)) ∧
      (∀ o q sec, j.phase = .fetching o → s.order? o = some q → q.phase = .fetched sec → r.recalled = false →
        exec (.addRecall c tag) s = .next (done marked r.state))) ∧
    (∀ o k w, r.state = .allocated → s.orderOf? n = some o → o.link = .cell k → s.ticket? k = some w →
      let again : Ticket := { w with phase := .waiting }
      let others := s.tickets.filter (fun v => v.number != k)
      (o.phase = .released →
        exec (.addRecall c tag) s = .next (done (State.settle { held with
          orders := s.orders.filter (fun v => v.number != o.number)
          tickets := if w.urgent then again :: others
            else others.filter (·.urgent) ++ again :: others.filter (fun v => !v.urgent) } true) .quarantine)) ∧
      (∀ sec, o.phase = .fetched sec → r.recalled = false →
        exec (.addRecall c tag) s = .next (done marked .allocated)))

/-- LIST_RECALL answers a window of the list, oldest first (R18), and READ_RECORD the record's version and the asked
fields (R25, R26); neither changes anything but the link. Each field is encoded as R2 and R3 give it, a crib pocket
present exactly at CRIB and a machine place exactly at MACHINE (R6; one value in the model, log 11). -/
def Obligations.RecordQuestionsAnswerTheTable : Prop :=
  ∀ (s : State) (c : Caller),
    let t := s.received c.link
    (∀ skip count : Byte, s.Takes c 0x08 → skip.toNat ≤ 63 → 1 ≤ count.toNat → count.toNat ≤ 29 →
      let tags := (s.recalls.drop skip.toNat).take count.toNat
      exec (.listRecall c skip count) s = .next (t.answered c 0x08 .ok
        (b1 s.recalls.length ++ b1 tags.length ++ tags.flatMap fun g => leBytes 8 g.toNat))) ∧
    (∀ (num : BitVec 16) (n : RecNo) (first count : Byte), s.Takes c 0x09 → num.toNat = n.val → 1 ≤ count.toNat →
      first.toNat + count.toNat ≤ 24 →
      exec (.readRecord c num first count) s = .next (t.answered c 0x09 .ok
        (b2 n.val ++ b1 first.toNat ++ b1 count.toNat ++ b2 (s.tool n).version.toNat ++
          (List.range' first.toNat count.toNat).flatMap (fieldBytes (s.tool n))))) ∧
    ∀ r : ToolRecord,
      let state : Byte := match r.state with
        | .empty => 0
        | .presetDue => 1
        | .measuring => 2
        | .ready => 3
        | .allocated => 4
        | .inTransit => 5
        | .inMachine => 6
        | .returning => 7
        | .quarantine => 8
        | .worn => 9
        | .check => 10
      let place : List (List Byte) := match r.loc with
        | .crib q => [[0], 1 :: leBytes 1 q.val, [0, 0, 0, 0]]
        | .presetter => [[1], [0, 0], [0, 0, 0, 0]]
        | .transit => [[2], [0, 0], [0, 0, 0, 0]]
        | .machine q => [[3], [0, 0], 1 :: (leBytes 1 q.link.val ++ leBytes 1 q.machine ++ leBytes 1 q.pocket)]
        | .unknown => [[4], [0, 0], [0, 0, 0, 0]]
      let features : Byte := match r.plan.features with
        | .length => 1
        | .radius => 2
        | .both => 3
      let fault : Byte := match r.lastFault with
        | .none => 0
        | .pocketEmpty => 1
        | .jammed => 2
        | .orderTimeout => 3
        | .loadTimeout => 4
        | .tagLost => 5
      let verdict : Byte := match r.lastVerdict with
        | .none => 0
        | .good => 1
        | .calStale => 2
        | .outOfRange => 3
        | .runout => 4
        | .outTol => 5
        | .wearLimit => 6
      let optional (w : Nat) (v : Option Nat) : List Byte := match v with
        | none => List.replicate (w + 1) 0
        | some x => 1 :: leBytes w x
      (List.range 24).map (fieldBytes r) =
        [[state], leBytes 2 r.version.toNat, leBytes 8 r.tag.toNat, leBytes 2 r.cls] ++ place ++
        [leBytes 4 r.nomLen, leBytes 4 r.nomRad, leBytes 2 r.lenTol, leBytes 2 r.radTol, leBytes 2 r.runoutLimit,
          leBytes 2 r.wearLimit, features :: (leBytes 1 r.plan.stations ++ leBytes 1 r.plan.samples),
          [if r.lifeMode = .parts then 1 else 0], leBytes 3 r.lifeInit, leBytes 3 r.lifeRem, optional 4 r.presetLen,
          optional 4 r.presetRad, optional 2 r.presetJob, optional 4 r.presetTime,
          [(if r.recalled then 1 else 0) + (if r.damaged then 2 else 0)], [fault], [verdict]] ∧
      ∀ f, f < 24 → fieldWidth f = (fieldBytes r f).length

/-! ### Record access (02) -/

/-- OPEN_EDIT opens an edit with its window, its mode, its pointer at the window's first field, no entries and its idle
timer at 5 s; the answer tells whether an open edit was discarded (R28, R38). EDIT_DATA appends the entries it reads,
moves the pointer past them, sets TRUNCATED when bytes remain, and restarts the timer (R30, R31, R38). The timer's expiry
discards the edit and changes nothing else (R38); that EDIT_IDLE_TIMEOUT acts whatever seconds are left (log 6), and
changes nothing where no edit is open (log 7), are the model's choices. -/
def Obligations.EditRequestsFillTheBuffer : Prop :=
  ∀ (s : State) (c : Caller),
    let t := s.received c.link
    (∀ (n : RecNo) (num : BitVec 16) (first last mode : Byte) (expected : BitVec 16),
      s.Takes c 0x0A → num.toNat = n.val → first.toNat ≤ last.toNat → last.toNat ≤ 23 → mode.toNat ≤ 1 →
      (s.tool n).state ≠ .empty →
      let e : Edit :=
        { record := n, tag := (s.tool n).tag, first := first.toNat, last := last.toNat
          mode := if mode = 0 then .always else .ifVersion expected
          pointer := first.toNat, entries := [], truncated := false, idleLeft := 5 }
      exec (.openEdit c num first last mode expected) s = .next (State.answered
        (t.changeLink c.link fun k => { k with edit := some e })
        c 0x0A .ok (b2 (s.tool n).version.toNat ++ b1 (s.tool n).state.code ++ bFlag (s.link c.link).edit.isSome))) ∧
    (∀ (e : Edit) (bytes : List Byte) (new : List Entry) (left : List Byte),
      s.Takes c 0x0B → (s.link c.link).edit = some e →
      readEntries (e.last + 1 - e.pointer) e.pointer bytes = some (new, left) →
      let e' : Edit :=
        { e with pointer := e.pointer + new.length, entries := e.entries ++ new
                 truncated := e.truncated || !left.isEmpty, idleLeft := 5 }
      exec (.editData c bytes) s = .next (State.answered
        (t.changeLink c.link fun k => { k with edit := some e' })
        c 0x0B .ok (b1 (e.pointer + new.length) ++ b1 (e.entries.length + new.length) ++
          bFlag (e.truncated || !left.isEmpty)))) ∧
    (∀ l, s.mainUp = true →
      exec (.editIdleTimeout l) s = .next (State.judgeAttention (s.changeLink l fun k => { k with edit := none })))

/-- The entries that one EDIT_DATA reads, exactly: each is its operation byte (SKIP 0, SET 1, SET_IF_LOWER 2,
SET_IF_HIGHER 3) and then the field's bytes as sent, none for SKIP; the fields follow the pointer one by one; at most
as many entries are read as fields remain, and bytes are left over only then; an optional field's present-marker is 0
or 1 (R29, R30, R31). Bytes of no such form are refused. -/
def Obligations.EditEntriesFollowTheFieldPointer : Prop :=
  ∀ (k field : Nat) (bytes left : List Byte) (es : List Entry),
    let opByte (o : EditOp) : Byte := match o with
      | .skip => 0
      | .set => 1
      | .setIfLower => 2
      | .setIfHigher => 3
    (readEntries k field bytes = some (es, left) ↔
      es.length ≤ k ∧ (es.length < k → left = []) ∧
      (∀ i e, es[i]? = some e → e.field = field + i ∧
        e.value.length = (if e.op = .skip then 0 else fieldWidth (field + i)) ∧
        (e.op ≠ .skip → fieldOptional (field + i) = true → (e.value.headD 0).toNat ≤ 1)) ∧
      bytes = (es.flatMap fun e => opByte e.op :: e.value) ++ left)

/-- CLOSE_EDIT on a record that carries the tag, with the version it names and every entry permitted: the record takes
the entries one by one in field order, each ranged, with their consequences, in one change whose version rises at most
once; the edit is closed; an issue pass follows where R36 gives one (R32 to R36, R29, R4, R8, R9, R11). With an entry
not permitted to the role, the lowest such field is answered and nothing changes (R32, R33). The pass counted in the
change (log 14), the answer after it (log 15), when it is made (log 30), the widths of the answer's numbers (log 39) and
the number of changed fields, counted before the pass (log 40), are the model's choices. -/
def Obligations.CloseEditCommitsTheEdit : Prop :=
  ∀ (s : State) (c : Caller) (e : Edit), s.Takes c 0x0C → (s.link c.link).edit = some e →
    (s.tool e.record).tag = e.tag → (∀ v, e.mode = .ifVersion v → (s.tool e.record).version = v) →
    let old := s.tool e.record
    let retirable : Prop := old.state = .presetDue ∨ old.state = .ready ∨ old.state = .quarantine ∨
      old.state = .worn ∨ old.state = .check
    let permitted (x : Entry) : Prop :=
      ((s.link c.link).role = .supervisor ∧
        ((x.field = 16 ∧ old.state ≠ .empty) ∨
          ((x.field = 3 ∨ (7 ≤ x.field ∧ x.field ≤ 12) ∨ x.field = 15) ∧ retirable) ∨
          ((x.field = 13 ∨ x.field = 14) ∧ retirable ∧ x.op = .set))) ∨
      ((s.link c.link).role = .cell ∧ x.field = 16 ∧ x.op = .setIfLower ∧ old.state = .inMachine ∧
        ∃ q, old.loc = .machine q ∧ q.link = c.link)
    let number (x : Entry) : Int := if x.field = 7 ∨ x.field = 8 then leInt x.value else leNat x.value
    let held (r : ToolRecord) (f : Nat) : Nat :=
      if f = 3 then r.cls else if f = 7 then r.nomLen else if f = 8 then r.nomRad else if f = 9 then r.lenTol
      else if f = 10 then r.radTol else if f = 11 then r.runoutLimit else if f = 12 then r.wearLimit
      else if f = 15 then r.lifeInit else r.lifeRem
    let put (r : ToolRecord) (f v : Nat) : ToolRecord :=
      if f = 3 then { r with cls := v } else if f = 7 then { r with nomLen := v }
      else if f = 8 then { r with nomRad := v } else if f = 9 then { r with lenTol := v }
      else if f = 10 then { r with radTol := v } else if f = 11 then { r with runoutLimit := v }
      else if f = 12 then { r with wearLimit := v } else if f = 15 then { r with lifeInit := v }
      else { r with lifeRem := v }
    let ranged (r : ToolRecord) (f : Nat) (v : Int) : Nat :=
      if f = 3 then max 1 (min 4095 v.toNat) else if f = 7 then min 9999999 v.toNat
      else if f = 8 then min 1999999 v.toNat else if f = 15 then min 16777215 v.toNat
      else if f = 16 then min r.lifeInit (min 16777215 v.toNat) else min 65535 v.toNat
    let one (a : Applied) (x : Entry) : Applied :=
      let b (k : Nat) : Nat := (x.value.getD k 0).toNat
      let v := ranged a.record x.field (number x)
      let writes : Bool := match x.op with
        | .skip => false
        | .set => true
        | .setIfLower => decide (v < held a.record x.field)
        | .setIfHigher => decide (held a.record x.field < v)
      if x.op = .skip then a
      else if x.field = 13 then
        { record := { a.record with plan :=
            { features := if b 0 ≤ 1 then .length else if b 0 = 2 then .radius else .both
              stations := max 1 (min 8 (b 1))
              samples := if 8 ≤ b 2 then 8 else if 4 ≤ b 2 then 4 else if 2 ≤ b 2 then 2 else 1 } }
          notApplied := a.notApplied
          ranged := if (1 ≤ b 0 ∧ b 0 ≤ 3) ∧ (1 ≤ b 1 ∧ b 1 ≤ 8) ∧ (b 2 = 1 ∨ b 2 = 2 ∨ b 2 = 4 ∨ b 2 = 8) then a.ranged
            else a.ranged ++ [13] }
      else if x.field = 14 then
        { record := { a.record with lifeMode := if b 0 = 0 then .seconds else .parts }, notApplied := a.notApplied
          ranged := if b 0 ≤ 1 then a.ranged else a.ranged ++ [14] }
      else
        { record := if writes then put a.record x.field v else a.record
          notApplied := if writes then a.notApplied else a.notApplied + 1
          ranged := if (v : Int) = number x then a.ranged else a.ranged ++ [x.field] }
    let a := e.entries.foldl one { record := old, notApplied := 0, ranged := [] }
    let uncovered : Bool := decide ((a.record.plan.features ≠ .radius ∧ a.record.presetLen = none) ∨
      (a.record.plan.features ≠ .length ∧ a.record.presetRad = none))
    let new : ToolRecord := { a.record with
      lifeRem := min a.record.lifeRem a.record.lifeInit
      state := if a.record.state = .ready ∧ a.record.plan ≠ old.plan ∧ uncovered = true
        then (if a.record.recalled then .quarantine else .presetDue) else a.record.state }
    let moved (r : ToolRecord) : ToolRecord :=
      { r with version := if { r with version := old.version } = old then old.version else old.version + 1 }
    let u := ((s.received c.link).setTool e.record (moved new)).changeLink c.link fun k => { k with edit := none }
    let v := if old.state = .ready ∧ (∃ p, old.loc = .crib p) ∧ (old.cls ≠ new.cls ∨ old.lifeRem < new.lifeRem)
      then u.settle true else u
    let w := v.setTool e.record (moved (v.tool e.record))
    ((∀ x ∈ e.entries, x.op ≠ .skip → permitted x) →
      exec (.closeEdit c) s = .next (w.answered c 0x0C (if e.truncated then .committedTruncated else .committed)
        (b1 ((List.range 24).filter fun f => f != 1 && fieldBytes old f != fieldBytes new f).length ++
          b1 a.notApplied ++ b1 a.ranged.length ++ bOpt 1 a.ranged.head? ++ b2 (w.tool e.record).version.toNat ++
          b1 (w.tool e.record).state.code))) ∧
    (∀ before x after, e.entries = before ++ x :: after → (∀ y ∈ before, y.op ≠ .skip → permitted y) → x.op ≠ .skip →
      ¬ permitted x →
      exec (.closeEdit c) s = .next ((s.received c.link).answered c 0x0C .fieldRefused (b1 x.field)))

/-- A cell's edit of one SET_IF_LOWER on life remaining of a tool in its machine lowers the life to a lower value, and
leaves a life that is not higher (R29, R33, R34, R8). -/
def Obligations.CellEditOnlyLowersLife : Prop :=
  ∀ (s : State) (c : Caller) (e : Edit) (x y z : Byte), s.Takes c 0x0C → (s.link c.link).role = .cell →
    (s.link c.link).edit = some e → (s.tool e.record).tag = e.tag → e.mode = .always → e.truncated = false →
    e.entries = [{ field := 16, op := .setIfLower, value := [x, y, z] }] →
    (s.tool e.record).inMachineOn c.link = true → (s.tool e.record).lifeRem ≤ (s.tool e.record).lifeInit →
    let r := s.tool e.record
    let v := x.toNat + 256 * y.toNat + 65536 * z.toNat
    ∃ u, exec (.closeEdit c) s = .next u ∧ (u.link c.link).edit = none ∧
      (v < r.lifeRem → u.tool e.record = { r with lifeRem := v, version := r.version + 1 }) ∧
      (r.lifeRem ≤ v → u.tool e.record = r) ∧ ∀ k, k ≠ e.record → u.tool k = s.tool k

/-- ABORT_EDIT discards the edit open on the calling link, closes its buffer and answers OK with the record number the
edit named; without one it is refused with NO_EDIT. Every record and every other link's edit stay as they were (R37). -/
def Obligations.EditsAreDiscardedWhole : Prop :=
  ∀ (s : State) (c : Caller),
    let t := s.received c.link
    (∀ e, s.Takes c 0x0D → (s.link c.link).edit = some e →
      exec (.abortEdit c) s = .next (State.answered (t.changeLink c.link fun k => { k with edit := none })
        c 0x0D .ok (b2 e.record.val))) ∧
    (s.Takes c 0x0D → (s.link c.link).edit = none → exec (.abortEdit c) s = .next (t.answered c 0x0D .noEdit []))

/-! ### Axis counters and edge capture (03) -/

/-- A legal step moves the counter by one, up or down by its direction: Z and X wrap in 32 bits, A goes round its
circle, and the index span follows A and saturates; a pair of phases that does not change moves nothing (R41, R42, R43). -/
def Obligations.LegalStepsCount : Prop :=
  ∀ (s : State) (p : Fin 4), s.mainUp = true →
    let cpr := s.settings.countsPerRev
    (p = s.lines.zPhase + 1 → exec (.encoderStep .z p) s = .next (State.judgeAttention
      { s with lines := { s.lines with zPhase := p }, capture := { s.capture with z := s.capture.z + 1 } })) ∧
    (s.lines.zPhase = p + 1 → exec (.encoderStep .z p) s = .next (State.judgeAttention
      { s with lines := { s.lines with zPhase := p }, capture := { s.capture with z := s.capture.z - 1 } })) ∧
    (p = s.lines.xPhase + 1 → exec (.encoderStep .x p) s = .next (State.judgeAttention
      { s with lines := { s.lines with xPhase := p }, capture := { s.capture with x := s.capture.x + 1 } })) ∧
    (s.lines.xPhase = p + 1 → exec (.encoderStep .x p) s = .next (State.judgeAttention
      { s with lines := { s.lines with xPhase := p }, capture := { s.capture with x := s.capture.x - 1 } })) ∧
    (p = s.lines.aPhase + 1 → exec (.encoderStep .a p) s = .next (State.judgeAttention
      { s with lines := { s.lines with aPhase := p }, capture := { s.capture with
          a := if cpr ≤ s.capture.a + 1 then 0 else s.capture.a + 1
          span := max (-2147483647) (min 2147483647 (s.capture.span + 1)) } })) ∧
    (s.lines.aPhase = p + 1 → exec (.encoderStep .a p) s = .next (State.judgeAttention
      { s with lines := { s.lines with aPhase := p }, capture := { s.capture with
          a := if s.capture.a = 0 then cpr - 1 else s.capture.a - 1
          span := max (-2147483647) (min 2147483647 (s.capture.span - 1)) } })) ∧
    (∀ e, p = s.lines.phase e → exec (.encoderStep e p) s = .next s.judgeAttention)

/-- An illegal step moves no counter and no span: it sets the encoder's glitch indicator, and ENCODER_GLITCH in the
station flags while ARMED and in the job flags while MOUNTED or STATION_DONE (R42). -/
def Obligations.IllegalStepsGlitch : Prop :=
  ∀ (s : State) (e : Encoder) (p : Fin 4), s.mainUp = true → p = s.lines.phase e + 2 →
    let g : Capture :=
      { s.capture with
        glitchZ := s.capture.glitchZ || decide (e = .z), glitchX := s.capture.glitchX || decide (e = .x)
        glitchA := s.capture.glitchA || decide (e = .a) }
    let u : State := { s with lines := s.lines.setPhase e p, capture := g }
    ((s.engine.phase = .idle ∨ s.engine.phase = .offered) → exec (.encoderStep e p) s = .next u.judgeAttention) ∧
    ((s.engine.phase = .mounted ∨ s.engine.phase = .stationDone) →
      exec (.encoderStep e p) s = .next (State.judgeAttention
        { u with engine := { s.engine with flags := { s.engine.flags with glitch := true } } })) ∧
    (∀ left, s.engine.phase = .armed left →
      exec (.encoderStep e p) s = .next (State.judgeAttention
        { u with capture := { g with buffer := { s.capture.buffer with glitch := true } } }))

/-- An index pulse restarts A and the span and keeps the revolution with its check; a SLIPPED check while ARMED also
discards the station's samples and angle, drops a latch and sets INDEX_SLIP (R44, R45). -/
def Obligations.IndexPulseChecksTheRevolution : Prop :=
  ∀ s : State, s.mainUp = true →
    let count := s.capture.span.natAbs
    let result : IndexCheck :=
      if s.capture.checkPending then .unchecked
      else if s.settings.countsPerRev ≤ count + 2 ∧ count ≤ s.settings.countsPerRev + 2 then .passed else .slipped
    let g : Capture :=
      { s.capture with a := 0, span := 0, revolution := some { count := count, result := result }, checkPending := false }
    ((result ≠ .slipped ∨ ∀ left, s.engine.phase ≠ .armed left) →
      exec .indexPulse s = .next (State.judgeAttention { s with capture := g })) ∧
    (∀ left, result = .slipped → s.engine.phase = .armed left →
      exec .indexPulse s = .next (State.judgeAttention { s with
        capture := { g with
          buffer := { s.capture.buffer with samples := [], angle := none }
          qualifier := match s.capture.qualifier with
            | .dwelling _ => .heldActive
            | q => q }
        engine := { s.engine with flags := { s.engine.flags with indexSlip := true } } }))

/-- The qualifier follows the lines (R46 to R50). The edge line going active: a latch of all three counters in LISTENING
with the station armed at that instant, HELD_ACTIVE from DEAD_TIME, and no other effect elsewhere (a dwell of 0
qualifies the latch at once, as `DwellEndQualifiesTheSample` says). Going inactive: a latch is dropped without a dead
time, and HELD_ACTIVE goes to DEAD_TIME, or straight to LISTENING with a dead time of 0. The dead time's end goes to
LISTENING. The guard line opening gives GUARDED from any state, and closing gives HELD_ACTIVE or LISTENING by the edge
line. -/
def Obligations.LinesMoveTheQualifier : Prop :=
  ∀ s : State, s.mainUp = true →
    let active : Lines := { s.lines with edgeLevel := s.settings.edgePolarity == 1 }
    let inactive : Lines := { s.lines with edgeLevel := !(s.settings.edgePolarity == 1) }
    let open_ : Lines := { s.lines with guardLevel := !(s.settings.guardRef == 1) }
    let closed : Lines := { s.lines with guardLevel := s.settings.guardRef == 1 }
    let at_ (lines : Lines) (q : Qualifier) : State :=
      State.judgeAttention { s with lines := lines, capture := { s.capture with qualifier := q } }
    let h : Latch :=
      { sample := { z := s.capture.z, x := s.capture.x, a := s.capture.a }
        station := if s.engine.phase.isArmed
          then s.currentJob?.map fun j => { job := j.number, index := s.engine.nextStation } else none }
    (s.edgeIsActive = false → s.capture.qualifier = .listening → s.settings.dwell ≠ 0 →
      exec .edgeActive s = .next (at_ active (.dwelling h))) ∧
    (s.edgeIsActive = false → s.capture.qualifier = .listening → s.settings.dwell = 0 →
      exec .edgeActive s = .next (State.judgeAttention (State.qualify { s with lines := active } h))) ∧
    (s.edgeIsActive = false → s.capture.qualifier = .deadTime →
      exec .edgeActive s = .next (at_ active .heldActive)) ∧
    (s.edgeIsActive = false → s.capture.qualifier = .guarded → exec .edgeActive s = .next (at_ active .guarded)) ∧
    (∀ d, s.edgeIsActive = true → s.capture.qualifier = .dwelling d →
      exec .edgeInactive s = .next (at_ inactive .listening)) ∧
    (s.edgeIsActive = true → s.capture.qualifier = .heldActive → s.settings.deadTime ≠ 0 →
      exec .edgeInactive s = .next (at_ inactive .deadTime)) ∧
    (s.edgeIsActive = true → s.capture.qualifier = .heldActive → s.settings.deadTime = 0 →
      exec .edgeInactive s = .next (at_ inactive .listening)) ∧
    (s.edgeIsActive = true → s.capture.qualifier = .guarded →
      exec .edgeInactive s = .next (at_ inactive .guarded)) ∧
    (s.capture.qualifier = .deadTime → exec .deadTimeEnd s = .next (at_ s.lines .listening)) ∧
    (s.guardIsOpen = false → exec .guardOpens s = .next (at_ open_ .guarded)) ∧
    (s.guardIsOpen = true → s.edgeIsActive = true → exec .guardCloses s = .next (at_ closed .heldActive)) ∧
    (s.guardIsOpen = true → s.edgeIsActive = false → exec .guardCloses s = .next (at_ closed .listening))

/-- The dwell passing: the latch becomes the last qualified sample and the qualifier goes to HELD_ACTIVE. A sample of a
station that is not armed, be the engine not ARMED or armed for another station, reaches no buffer; one of the armed
station is rejected beyond the angle tolerance, the shorter way round, and is otherwise appended, the first fixing the
angle; and the last one completes the station, the engine going to STATION_DONE, or the job being computed when it was
the plan's last (R48, R52, R53, R54, R80, R82; the computation is spelled in PresetResultReachesTheRecord and
CalibrationUpdatesTheReference). -/
def Obligations.DwellEndQualifiesTheSample : Prop :=
  ∀ (s : State) (h : Latch), s.mainUp = true → s.capture.qualifier = .dwelling h →
    let b := s.capture.buffer
    let g : Capture := { s.capture with lastSample := some h.sample, qualifier := .heldActive }
    (h.station = none →
      exec .dwellEnd s = .next (State.judgeAttention { s with capture := g })) ∧
    ((∀ left, s.engine.phase ≠ .armed left) →
      exec .dwellEnd s = .next (State.judgeAttention { s with capture := g })) ∧
    (∀ left j, s.engine.phase = .armed left → s.currentJob? = some j →
      h.station ≠ some { job := j.number, index := s.engine.nextStation } →
      exec .dwellEnd s = .next (State.judgeAttention { s with capture := g })) ∧
    (∀ left j, s.engine.phase = .armed left → s.currentJob? = some j →
      h.station = some { job := j.number, index := s.engine.nextStation } → b.station = h.station →
      let far (a : Nat) : Prop :=
        let d := ((h.sample.a : Int) - a).natAbs
        s.settings.angleTol < if s.settings.countsPerRev < 2 * d then s.settings.countsPerRev - d else d
      let full : StationBuffer :=
        { b with samples := b.samples ++ [h.sample], angle := some (b.angle.getD h.sample.a) }
      let complete : State := { s with
        capture := { g with buffer := full }
        engine :=
          { phase := .stationDone, nextStation := s.engine.nextStation + 1
            results := s.engine.results ++
              [{ zs := full.samples.map (·.z), xs := full.samples.map (·.x), angle := full.angle }]
            flags := { s.engine.flags with
              rejected := s.engine.flags.rejected || b.rejected, glitch := s.engine.flags.glitch || b.glitch } } }
      (∀ a, b.angle = some a → far a →
        exec .dwellEnd s = .next (State.judgeAttention
          { s with capture := { g with buffer := { b with rejected := true } } })) ∧
      ((∀ a, b.angle = some a → ¬ far a) → b.samples.length + 1 < j.plan.samples →
        exec .dwellEnd s = .next (State.judgeAttention { s with capture := { g with buffer := full } })) ∧
      ((∀ a, b.angle = some a → ¬ far a) → j.plan.samples ≤ b.samples.length + 1 →
        (s.engine.nextStation + 1 < j.plan.stations → exec .dwellEnd s = .next complete.judgeAttention) ∧
        (j.plan.stations ≤ s.engine.nextStation + 1 →
          (∀ n, j.record = some n → exec .dwellEnd s = .next (complete.computeJob j n).judgeAttention) ∧
          (j.record = none → exec .dwellEnd s = .next (complete.calibrateJob j).judgeAttention))))

/-- READ_AXES answers the values of R61 in their order and clears the three glitch indicators; the two line bytes are
free values, whatever they are (log 18). The widths are the model's reading of R203 (log 24). -/
def Obligations.ReadAxesAnswersTheCounters : Prop :=
  ∀ (s : State) (c : Caller), s.Takes c 0x0E →
    let k := s.capture
    let t := s.received c.link
    exec (.readAxes c) s = .next (State.answered
      { t with capture := { k with glitchZ := false, glitchX := false, glitchA := false } } c 0x0E .ok
      (b4 k.z.toNat ++ b4 k.x.toNat ++ b4 k.a ++ bCount k.span ++
        (match k.revolution with
          | none => [0, 0, 0, 0, 0, 0, 0]
          | some v => b1 1 ++ b4 v.count ++ b1 1 ++ b1 v.result.code) ++
        bFlag k.checkPending ++ b1 k.qualifier.code ++
        [Config.edgeLineCode s.edgeIsActive, Config.guardLineCode s.guardIsOpen] ++
        (match k.lastSample with
          | none => [0, 0, 0, 0, 0, 0, 0, 0, 0, 0, 0, 0, 0]
          | some v => b1 1 ++ b4 v.z.toNat ++ b4 v.x.toNat ++ b4 v.a) ++
        bFlag k.glitchZ ++ bFlag k.glitchX ++ bFlag k.glitchA ++
        (match k.buffer.station with
          | none => [0, 0, 0, 0]
          | some v => b1 1 ++ b2 v.job ++ b1 v.index) ++
        b1 k.buffer.samples.length ++ bOpt 4 k.buffer.angle ++
        b1 ((if k.buffer.rejected then 4 else 0) + (if k.buffer.glitch then 8 else 0))))

/-- No command but ENCODER_STEP and START moves the Z or the X counter: no request clears or presets them, and no link
reset, index pulse or setting reaches them (R41). -/
def Obligations.CountersMoveOnlyByEncoders : Prop :=
  ∀ (c : Instr) (s t : State), exec c s = .next t → (∀ e p, c ≠ .encoderStep e p) → (∀ p, c ≠ .start p) →
    t.capture.z = s.capture.z ∧ t.capture.x = s.capture.x

/-! ### Measurement jobs (04) -/

/-- Numbers of jobs, tickets, orders and handoff entries: the number taken is in 1..65,535 and is held by no entry
(R64, R124, R146, R168). An enqueue makes a WAITING job with such a number: an urgent one after every urgent job and
ahead of every normal one, a normal one at the end of the queue, and nothing else changes (R62, R64, R66). The
auto-calibrate check enqueues a CALIBRATE job at the head of the urgent section exactly when the seven conditions of
R114 hold, with the reference stale while it is absent, the hall time or valid-until is missing, or valid-until is
reached (R113), and otherwise changes nothing (R67, R114). -/
def Obligations.NewEntriesTakeFreshNumbers : Prop :=
  (∀ (next : Nat) (held : List Nat), 1 ≤ next → next ≤ 65535 → held.length < 65535 →
    1 ≤ takeNumber next held ∧ takeNumber next held ≤ 65535 ∧ takeNumber next held ∉ held ∧
      (next ∉ held → takeNumber next held = next) ∧
      nextNumber next = if next = 65535 then 1 else next + 1) ∧
  (∀ (s : State) (kind : JobKind) (r : Option RecNo) (plan : Plan) (origin : Origin) (urgent : Bool),
    1 ≤ s.nextJob → s.nextJob ≤ 65535 → s.jobs.length < 65535 →
    let n := takeNumber s.nextJob (s.jobs.map (·.number))
    let j : Job := { number := n, kind := kind, record := r, plan := plan, origin := origin, urgent := urgent,
                     prior := none, phase := .waiting }
    s.enqueue kind r plan origin urgent .tail =
      ({ s with
          jobs := if urgent then s.jobs.filter (·.urgent) ++ j :: s.jobs.filter (fun k => !k.urgent) else s.jobs ++ [j]
          nextJob := if n = 65535 then 1 else n + 1 }, n)) ∧
  ∀ s : State, 1 ≤ s.nextJob → s.nextJob ≤ 65535 →
    let ref := s.reference
    let stale : Prop := ref.present = false ∨ s.hall.set = false ∨ ref.validUntil = none ∨
      ∃ v, ref.validUntil = some v ∧ v ≤ s.hall.count
    let due : Prop := s.settings.autoCal = 1 ∧ stale ∧ (∀ j ∈ s.jobs, j.kind ≠ .calibrate) ∧ ref.gaugeTag ≠ 0 ∧
      ref.timePending = false ∧ (ref.present = false ∨ ref.lastOutcome ≠ .driftRejected) ∧ s.jobs.length < 16
    let n := takeNumber s.nextJob (s.jobs.map (·.number))
    (s.stale = true ↔ stale) ∧
    (due → s.autoCalCheck = { s with
      jobs := { number := n, kind := .calibrate, record := none
                plan := { features := .both, stations := ref.calStations, samples := ref.calSamples }
                origin := .autoCal, urgent := true, prior := none, phase := .waiting } :: s.jobs
      nextJob := if n = 65535 then 1 else n + 1 }) ∧
    (¬ due → s.autoCalCheck = s)

/-- MEASURE makes a WAITING job at the tail of its section with the ranged override or the record's default plan,
turns a READY record PRESET_DUE for a PRESET job, and answers ACCEPTED with its number; a fetch round and the engine's
choice follow (R65, R66, R71, R75). A CALIBRATE job takes the calibration plan and no record, and refuses an override.
The order of the round and the choice (log 12), and that the answer carries no version though R11 says that answers
report it (log 17), are the model's choices. -/
def Obligations.MeasureEnqueuesAJob : Prop :=
  ∀ (s : State) (c : Caller) (num : BitVec 16) (urgent f st sa : Byte),
    s.Takes c 0x0F → urgent.toNat ≤ 1 → s.jobs.length < 16 →
    let t := s.received c.link
    let origin : Origin := if (s.link c.link).role = .presetter then .presetterLink else .supervisorLink
    let plan : Plan := rangePlan f.toNat st.toNat sa.toNat
    let done (q : State × Nat) (clamped : Bool) : State :=
      State.answered (q.1.settle false) c 0x0F .accepted (b2 q.2 ++ bFlag clamped)
    (∀ n : RecNo, num.toNat = n.val → (s.tool n).recalled = false → s.jobOf? n = none →
      ((∃ p, (s.tool n).loc = .crib p) ∨ (s.tool n).loc = .presetter) →
      let r := s.tool n
      let u : State := if r.state = .ready then t.setTool n { r with state := .presetDue, version := r.version + 1 } else t
      ((r.state = .presetDue ∨ r.state = .ready) →
        exec (.measure c 0 num urgent 0 f st sa) s =
          .next (done (u.enqueue .preset (some n) r.plan origin (urgent == 1) .tail) false) ∧
        exec (.measure c 0 num urgent 1 f st sa) s =
          .next (done (u.enqueue .preset (some n) plan origin (urgent == 1) .tail)
            (planClamped f.toNat st.toNat sa.toNat))) ∧
      ((r.state = .ready ∨ r.state = .quarantine) →
        exec (.measure c 1 num urgent 0 f st sa) s =
          .next (done (t.enqueue .verify (some n) r.plan origin (urgent == 1) .tail) false) ∧
        exec (.measure c 1 num urgent 1 f st sa) s =
          .next (done (t.enqueue .verify (some n) plan origin (urgent == 1) .tail)
            (planClamped f.toNat st.toNat sa.toNat)))) ∧
    exec (.measure c 2 num urgent 1 f st sa) s = .next (t.answered c 0x0F .outOfRange []) ∧
    (s.hasCalibrate = false → s.reference.gaugeTag ≠ 0 →
      exec (.measure c 2 num urgent 0 f st sa) s = .next (done
        (t.enqueue .calibrate none
          { features := .both, stations := s.reference.calStations, samples := s.reference.calSamples } origin
          (urgent == 1) .tail) false))

/-- CANCEL_JOB removes a job that is WAITING, FETCHING with its order RELEASED, or OFFERED, and answers BUSY and changes
nothing for a job past that, NOT_CURRENT for a number no job has (R68). The removal, whatever asks for it: the job out
of the queue, its RELEASED order out of the list, an engine offering it IDLE with the parked values applied, the
auto-calibrate check, a pass where R69 or R130 prompts one, the fetch round and the engine's choice (R69, R155, R58).
The fetch round goes through the jobs in queue order: a WAITING job whose record is at CRIB gets a RELEASED order while
the list has room and fewer than two jobs are FETCHING; no claim is left ungranted with room for it (R71, R148). An IDLE
engine offers the first WAITING job at the presetter, its context cleared (R75). The order of the parts is the model's
reading (log 12). -/
def Obligations.CancelJobRemovesTheJob : Prop :=
  let removed (before after : State) (j : Job) : State :=
    let jobs := after.jobs.filter (fun k => k.number != j.number)
    let freed : State := match j.phase with
      | .waiting => { after with jobs := jobs }
      | .fetching o => { after with jobs := jobs, orders := after.orders.filter (fun q => q.number != o) }
      | .current => State.applyParked { after with jobs := jobs, engine := Engine.idle }
    let prompts : Bool := match j.phase, j.record with
      | .fetching _, _ => true
      | _, none => false
      | _, some r => (j.phase == .waiting && j.urgent && (before.tool r).loc.isCrib) ||
          ((after.tool r).state == .ready && (after.tool r).loc.isCrib && jobs.all (fun k => k.record != some r))
    freed.autoCalCheck.settle prompts
  (∀ (s : State) (c : Caller) (num : BitVec 16), s.Takes c 0x10 →
    let t := s.received c.link
    (s.job? num.toNat = none → exec (.cancelJob c num) s = .next (t.answered c 0x10 .notCurrent [])) ∧
    ∀ j, s.job? num.toNat = some j →
      ((j.phase = .waiting ∨ (∃ o q, j.phase = .fetching o ∧ s.order? o = some q ∧ q.phase = .released) ∨
          (j.phase = .current ∧ s.engine.phase = .offered)) →
        exec (.cancelJob c num) s = .next (State.answered (removed t t j) c 0x10 .ok [])) ∧
      (((∃ o q left, j.phase = .fetching o ∧ s.order? o = some q ∧ q.phase = .fetched left) ∨
          (j.phase = .current ∧ s.engine.phase ≠ .offered)) →
        exec (.cancelJob c num) s = .next (t.answered c 0x10 .busy []))) ∧
  (∀ (before after : State) (j : Job), before.withdrawJob after j = removed before after j) ∧
  (∀ (u : State) (pass : Bool),
    u.settle pass = State.engineChoose (State.fetchRound (if pass then u.issuePass else u))) ∧
  (∀ u : State, u.fetchRound = (u.jobs.map (·.number)).foldl State.grantFetch u) ∧
  (∀ (u : State) (n : Nat),
    let claim (j : Job) (r : RecNo) (p : Fin 240) : Prop :=
      u.job? n = some j ∧ j.phase = .waiting ∧ j.record = some r ∧ (u.tool r).loc = .crib p
    let room : Prop := u.orders.length < 16 ∧ u.jobs.countP (fun j => j.phase.isFetching) < 2
    let o := takeNumber u.nextOrder (u.orders.map (·.number))
    (∀ j r p, claim j r p → room → u.grantFetch n = { u with
      orders := u.orders ++ [{ number := o, link := .presetter n, record := r, pocket := p, phase := .released }]
      nextOrder := nextNumber o
      jobs := u.jobs.map fun k => if k.number = n then { k with phase := .fetching o } else k }) ∧
    ((¬ room ∨ ∀ j r p, ¬ claim j r p) → u.grantFetch n = u)) ∧
  (∀ u : State, (u.jobs.map (·.number)).Nodup →
    let v := u.fetchRound
    (∀ j ∈ v.jobs, ∀ r p, j.phase = .waiting → j.record = some r → (v.tool r).loc ≠ .crib p) ∨
      16 ≤ v.orders.length ∨ 2 ≤ v.jobs.countP (fun j => j.phase.isFetching)) ∧
  ∀ u : State,
    let ready (j : Job) : Prop := j.phase = .waiting ∧
      ((j.record = none ∧ j.kind = .calibrate) ∨ ∃ r, j.record = some r ∧ (u.tool r).loc = .presetter)
    (u.engine.phase ≠ .idle → u.engineChoose = u) ∧
    ((∀ j ∈ u.jobs, ¬ ready j) → u.engineChoose = u) ∧
    (∀ before j after, u.engine.phase = .idle → u.jobs = before ++ j :: after → (∀ k ∈ before, ¬ ready k) → ready j →
      u.engineChoose = { u with
        jobs := u.jobs.map fun k => if k.number = j.number then { k with phase := .current } else k
        engine := { phase := .offered, nextStation := 0, results := [], flags := JobFlags.clear } })

/-- LIST_JOBS, GET_JOB and READ_RESULTS answer the queue, the current job and the log; GET_RESULT answers the newest
entry and clears the unread flag (R70, R77, R86, R87). The widths are the model's reading of R203 (log 24). -/
def Obligations.JobQuestionsAnswerTheEngine : Prop :=
  ∀ (s : State) (c : Caller),
    let t := s.received c.link
    (s.Takes c 0x11 → exec (.listJobs c) s = .next (t.answered c 0x11 .ok
      (b1 s.jobs.length ++ s.jobs.flatMap fun j =>
        b2 j.number ++ b1 j.kind.code ++ bOptRec j.record ++ b1 j.origin.code ++ bFlag j.urgent ++ b1 j.phase.code ++
          match j.phase with
          | .fetching o => b1 1 ++ b2 o
          | _ => [0, 0, 0]))) ∧
    (∀ j, s.Takes c 0x12 → s.currentJob? = some j → s.engine.phase ≠ .idle →
      let nominals : List Byte := match j.record with
        | none => b4 s.reference.gaugeLen ++ b4 s.reference.gaugeRad
        | some r => b4 (s.tool r).nomLen ++ b4 (s.tool r).nomRad
      let tag := match j.record with
        | none => s.reference.gaugeTag
        | some r => (s.tool r).tag
      exec (.getJob c) s = .next (t.answered c 0x12 .ok
        (b1 s.engine.phase.code ++ b2 j.number ++ b1 j.kind.code ++ b1 j.origin.code ++ bFlag j.urgent ++
          bOptRec j.record ++ bTag tag ++ bPlan j.plan ++ nominals ++ b1 s.engine.nextStation ++
          b1 s.engine.flags.code))) ∧
    (s.Takes c 0x12 → s.engine.phase = .idle → exec (.getJob c) s = .next (t.answered c 0x12 .none [])) ∧
    (∀ skip count : Byte, s.Takes c 0x17 → skip.toNat ≤ 31 → 1 ≤ count.toNat → count.toNat ≤ 6 →
      let es := (s.log.reverse.drop skip.toNat).take count.toNat
      exec (.readResults c skip count) s =
        .next (t.answered c 0x17 .ok (b1 es.length ++ es.flatMap entryBytes))) ∧
    (∀ e, s.Takes c 0x16 → s.log.getLast? = some e →
      exec (.getResult c) s = .next (State.answered { t with unread := false } c 0x16 .ok
        (b2 e.job ++ b1 e.kind.code ++ bOptRec e.record ++ bTag e.tag ++ b1 e.status.code ++ b1 e.flags.code ++
          b1 e.stations ++ bOpt 4 e.length ++ bOpt 4 e.radius ++ bOpt 4 e.runout ++ bOpt 4 e.hallTime)))

/-- MOUNT with the right tag makes the engine MOUNTED, saves the record's state as the job's prior state and makes the
record MEASURING; a CALIBRATE job changes no record; a wrong tag changes nothing (R78). That the answer carries no version
though R11 says that answers report it is the model's choice (log 17). -/
def Obligations.MountMakesTheRecordMeasuring : Prop :=
  ∀ (s : State) (c : Caller) (num : BitVec 16) (j : Job) (tag : Tag), s.Takes c 0x13 → s.currentJob? = some j →
    num.toNat = j.number → s.engine.phase = .offered → tag ≠ 0 →
    let t := s.received c.link
    let mounted : Engine := { s.engine with phase := .mounted }
    (∀ n, j.record = some n → (s.tool n).tag = tag → (s.tool n).state ≠ .measuring →
      exec (.mount c num tag) s = .next (State.answered
        (State.setTool
          { t with
            engine := mounted
            jobs := s.jobs.map fun k => if k.number == j.number then { k with prior := some (s.tool n).state } else k }
          n { s.tool n with state := .measuring, version := (s.tool n).version + 1 })
        c 0x13 .ok (bPlan j.plan))) ∧
    (j.record = none → s.reference.gaugeTag = tag →
      exec (.mount c num tag) s = .next (State.answered { t with engine := mounted } c 0x13 .ok (bPlan j.plan))) ∧
    (∀ n, j.record = some n → (s.tool n).tag ≠ tag →
      exec (.mount c num tag) s = .next (t.answered c 0x13 .tagMismatch []))

/-- ARM_STATION clears the station buffer for the job's next station, makes the engine ARMED and starts the station
timeout with the setting's length (R51, R79). -/
def Obligations.ArmStationClearsTheBuffer : Prop :=
  ∀ (s : State) (c : Caller) (num : BitVec 16) (station : Byte) (j : Job), s.Takes c 0x14 → s.currentJob? = some j →
    num.toNat = j.number → (s.engine.phase = .mounted ∨ s.engine.phase = .stationDone) →
    station.toNat = s.engine.nextStation →
    let empty : StationBuffer :=
      { station := some { job := j.number, index := s.engine.nextStation }, samples := [], angle := none
        glitch := false, rejected := false }
    exec (.armStation c num station) s = .next (State.answered
      { s.received c.link with
        engine := { s.engine with phase := .armed s.settings.stationTimeout }
        capture := { s.capture with buffer := empty } }
      c 0x14 .ok [])

/-- ABORT_JOB ends the current job with ABORTED, and is NOT_CURRENT when the engine is IDLE or the number is not the
current job's (R83). The end of a job ABORTED or NO_EDGE, whatever brings it about: a MEASURING record becomes
PRESET_DUE for a PRESET job and its prior state for a VERIFY job, QUARANTINE when recalled, its version one higher, and
any other record, or none for a CALIBRATE job, changes; the entry joins the log of 32, the oldest overwritten, and the
unread flag is set; the job leaves the queue and the engine is IDLE with the parked values applied; then the
auto-calibrate check, a pass where R69 prompts one, the fetch round and the choice; nothing else changes (R84, R85, R86,
R69, R58). The order of the parts (log 12), the answer without a version (log 17, though R11 says that answers report
it), and that the flags of a station still ARMED do not join the entry's at an abort (log 34) are the model's choices. -/
def Obligations.AbortJobEndsTheJob : Prop :=
  let ended (s : State) (j : Job) (status : Status) : State :=
    let tag : Tag := match j.record with
      | none => s.reference.gaugeTag
      | some n => (s.tool n).tag
    let last (r : ToolRecord) : ToolRecord :=
      if r.state = .measuring then
        { r with
          state := if r.recalled then .quarantine else if j.kind = .verify then j.prior.getD .presetDue else .presetDue
          version := r.version + 1 }
      else r
    let entry : LogEntry :=
      { job := j.number, kind := j.kind, record := j.record, tag := tag, status := status, flags := s.engine.flags
        stations := s.engine.results.length, length := none, radius := none, runout := none
        hallTime := if s.hall.set then some s.hall.count else none }
    let told : State := match j.record with
      | none => s
      | some n => s.setTool n (last (s.tool n))
    let jobs := s.jobs.filter (fun k => k.number != j.number)
    let prompts : Bool := match j.record with
      | none => false
      | some n => (told.tool n).state == .ready && (told.tool n).loc.isCrib && jobs.all (fun k => k.record != some n)
    (State.autoCalCheck (State.applyParked { told with
      log := (s.log ++ [entry]).drop (s.log.length + 1 - 32), unread := true, jobs := jobs
      engine := Engine.idle })).settle prompts
  (∀ (s : State) (c : Caller) (num : BitVec 16), s.Takes c 0x15 →
    let t := s.received c.link
    (∀ j, s.currentJob? = some j → num.toNat = j.number → s.engine.phase ≠ .idle → j.prior ≠ some .measuring →
      exec (.abortJob c num) s = .next (State.answered (ended t j .aborted) c 0x15 .ok [])) ∧
    ((s.engine.phase = .idle ∨ ∀ j, s.currentJob? = some j → num.toNat ≠ j.number) →
      exec (.abortJob c num) s = .next (t.answered c 0x15 .notCurrent []))) ∧
  ∀ (s : State) (j : Job) (status : Status), j.phase = .current → j.prior ≠ some .measuring →
    s.stopJob j status = ended s j status

/-- The station timeout: with samples and stations to come, the engine is STATION_DONE with the samples held and
REDUCED_AVG; with samples at the plan's last station, the job is computed with them; with no sample, the job ends
NO_EDGE with the station's flags added (R81, R80, R82, R84; the computation and the end are spelled in
PresetResultReachesTheRecord, CalibrationUpdatesTheReference and AbortJobEndsTheJob). It acts whatever seconds are left
(log 6), and what follows the job's end is in the model's order (log 12). -/
def Obligations.StationTimeoutEndsTheStation : Prop :=
  ∀ (s : State) (j : Job) (left : Nat), s.mainUp = true → s.currentJob? = some j → s.engine.phase = .armed left →
    let b := s.capture.buffer
    let flags : JobFlags :=
      { s.engine.flags with
        rejected := s.engine.flags.rejected || b.rejected, glitch := s.engine.flags.glitch || b.glitch }
    let complete : State := { s with engine :=
      { phase := .stationDone, nextStation := s.engine.nextStation + 1
        results := s.engine.results ++ [{ zs := b.samples.map (·.z), xs := b.samples.map (·.x), angle := b.angle }]
        flags := { flags with reducedAvg := true } } }
    (b.samples ≠ [] → s.engine.nextStation + 1 < j.plan.stations →
      exec .stationTimeout s = .next complete.judgeAttention) ∧
    (b.samples ≠ [] → j.plan.stations ≤ s.engine.nextStation + 1 →
      (∀ n, j.record = some n → exec .stationTimeout s = .next (complete.computeJob j n).judgeAttention) ∧
      (j.record = none → exec .stationTimeout s = .next (complete.calibrateJob j).judgeAttention)) ∧
    (b.samples = [] →
      exec .stationTimeout s = .next (State.judgeAttention
        (State.stopJob { s with engine := { s.engine with flags := flags } } j .noEdge)))

/-! ### Offset computation (05) -/

/-- The mean of a station: the integer nearest S / k, a half toward positive infinity; it lies between the least and
the greatest of the values (R92). -/
def Obligations.StationMeanRoundsHalfUp : Prop :=
  ∀ vs : List (BitVec 32), vs ≠ [] →
    let S := (vs.map BitVec.toInt).sum
    let k : Int := vs.length
    let M := stationMean vs
    (2 * k * M ≤ 2 * S + k ∧ 2 * S + k < 2 * k * (M + 1)) ∧
      (∃ v ∈ vs, v.toInt ≤ M) ∧ (∃ v ∈ vs, M ≤ v.toInt)

/-- The conversion rule: the sign of P and the magnitude floor((|P| + 50) / 100), so the value nearest P / 100 with a
half away from zero (R94). -/
def Obligations.ConversionRoundsHalfAway : Prop :=
  ∀ (counts : Int) (scale : Nat),
    let P := counts * scale
    let v := convert counts scale
    v.natAbs = (P.natAbs + 50) / 100 ∧ (0 ≤ P → 0 ≤ v) ∧ (P ≤ 0 → v ≤ 0) ∧
      2 * (100 * v - P).natAbs ≤ 100 ∧ (2 * (100 * v - P).natAbs = 100 → P.natAbs < (100 * v).natAbs)

/-- The computation of a PRESET or VERIFY job from its station means: the peaks, L, R and U converted and brought into
their ranges (R93, R95 to R97), made with the values held when the reference is stale and not at all when it is absent
(R98); the first status of R99 that applies, by R100 and R101; the preset and the state of a PRESET job, INCOMPLETE
where the default plan stays uncovered (R102 to R104), or the prior state of a VERIFY job, QUARANTINE when recalled, and
the verdict, in one change (R105, R106); the entry in the log of 32, the unread flag, the job out of the queue, the
engine IDLE with the parked values applied, the auto-calibrate check, made at a stale computation and at the removal,
and the choice (R84, R85, R86, R69, R98); nothing else changes. The order of the parts is the model's reading
(log 12). -/
def Obligations.PresetResultReachesTheRecord : Prop :=
  ∀ (s : State) (j : Job) (n : RecNo) (zpk xpk xlow : Int), j.record = some n → j.phase = .current →
    (j.kind = .preset ∨ (j.kind = .verify ∧ ∃ st, j.prior = some st ∧ st ≠ .measuring)) →
    (s.tool n).state = .measuring → (s.tool n).loc = .presetter →
    let zs := s.engine.results.map fun q => stationMean q.zs
    let xs := s.engine.results.map fun q => stationMean q.xs
    (zpk ∈ zs ∧ ∀ m ∈ zs, m ≤ zpk) → (xpk ∈ xs ∧ ∀ m ∈ xs, m ≤ xpk) → (xlow ∈ xs ∧ ∀ m ∈ xs, xlow ≤ m) →
    let r := s.tool n
    let ref := s.reference
    let hasL : Bool := j.plan.features != .radius
    let hasR : Bool := j.plan.features != .length
    let l : Int := ref.lRef + convert (zpk - ref.zRef) s.settings.zScale
    let d : Int := ref.rRef + convert (xpk - ref.xRef) s.settings.xScale
    let L := min 9999999 l.toNat
    let R := min 1999999 d.toNat
    let U := min 65535 (convert (xpk - xlow) s.settings.xScale).toNat
    let length : Option Nat := if ref.present && hasL then some L else none
    let radius : Option Nat := if ref.present && hasR then some R else none
    let runout : Option Nat := if ref.present && hasR then some U else none
    let hall : Option Nat := if s.hall.set then some s.hall.count else none
    let status : Status :=
      if s.stale then .calStale
      else if (hasL ∧ (l < 0 ∨ 9999999 < l)) ∨ (hasR ∧ (d < 0 ∨ 1999999 < d)) then .outOfRange
      else if hasR ∧ r.runoutLimit < U then .runout
      else if (hasL ∧ r.lenTol < ((L : Int) - r.nomLen).natAbs) ∨ (hasR ∧ r.radTol < ((R : Int) - r.nomRad).natAbs)
        then .outTol
      else if j.origin = .returned ∧ hasL ∧ r.presetLen.any (fun (prev : Nat) => decide ((r.wearLimit : Int) < (prev : Int) - L))
        then .wearLimit
      else .good
    let verdict : Verdict := match status with
      | .good => .good
      | .calStale => .calStale
      | .outOfRange => .outOfRange
      | .runout => .runout
      | .outTol => .outTol
      | .wearLimit => .wearLimit
      | _ => .none
    let newLen : Option Nat := if hasL then length else r.presetLen
    let newRad : Option Nat := if hasR then radius else r.presetRad
    let covered : Bool := decide ((r.plan.features ≠ .radius → newLen ≠ none) ∧ (r.plan.features ≠ .length → newRad ≠ none))
    let good : Bool := decide (j.kind = .preset ∧ status = .good)
    let told : ToolRecord := { r with
      version := r.version + 1
      state :=
        if r.recalled then .quarantine
        else if j.kind = .verify then j.prior.getD .presetDue
        else if status = .good then (if covered then .ready else .presetDue)
        else if status = .calStale then .presetDue
        else .quarantine
      presetLen := if good then newLen else r.presetLen
      presetRad := if good then newRad else r.presetRad
      presetJob := if good then some j.number else r.presetJob
      presetTime := if good then hall else r.presetTime
      lastVerdict := verdict }
    let entry : LogEntry :=
      { job := j.number, kind := j.kind, record := some n, tag := r.tag, status := status
        flags := { s.engine.flags with incomplete := s.engine.flags.incomplete || (good && !r.recalled && !covered) }
        stations := s.engine.results.length, length := length, radius := radius, runout := runout, hallTime := hall }
    let asked : State := if s.stale then s.autoCalCheck else s
    s.computeJob j n = (State.autoCalCheck (State.applyParked { asked.setTool n told with
      log := (s.log ++ [entry]).drop (s.log.length + 1 - 32), unread := true
      jobs := asked.jobs.filter (fun k => k.number != j.number), engine := Engine.idle })).settle false

/-! ### Reference and calibration (06) -/

/-- The end of a calibration, from the peaks of its station means (R93): beyond the drift limit in either axis it is
rejected, the reference kept but for the outcome and the drifts; otherwise it is accepted with the gauge's sizes and
dated by the hall clock, or left pending while the clock is unset. The log of 32 takes the entry either way, the oldest
overwritten, the unread flag is set, the job leaves the queue, the engine is IDLE with the parked values applied, and
the auto-calibrate check and the choice follow; nothing else changes (R107, R116 to R118, R120, R84, R85, R69). The
order of the parts is the model's reading (log 12). -/
def Obligations.CalibrationUpdatesTheReference : Prop :=
  ∀ (s : State) (j : Job) (z x : Int), j.kind = .calibrate → j.record = none → j.phase = .current →
    let zs := s.engine.results.map fun q => stationMean q.zs
    let xs := s.engine.results.map fun q => stationMean q.xs
    (z ∈ zs ∧ ∀ m ∈ zs, m ≤ z) → (x ∈ xs ∧ ∀ m ∈ xs, m ≤ x) →
    let ref := s.reference
    let far : Prop := s.settings.driftLimit < (z - ref.zRef).natAbs ∨ s.settings.driftLimit < (x - ref.xRef).natAbs
    let done (after : Reference) (status : Status) (l r : Option Nat) : State :=
      let entry : LogEntry :=
        { job := j.number, kind := .calibrate, record := none, tag := ref.gaugeTag, status := status
          flags := s.engine.flags, stations := s.engine.results.length, length := l, radius := r, runout := none
          hallTime := if s.hall.set then some s.hall.count else none }
      (State.autoCalCheck (State.applyParked { s with
        reference := after, log := (s.log ++ [entry]).drop (s.log.length + 1 - 32), unread := true
        jobs := s.jobs.filter (fun k => k.number != j.number), engine := Engine.idle })).settle false
    (ref.present = true → far →
      s.calibrateJob j = done { ref with
        lastOutcome := .driftRejected, driftZ := some (z - ref.zRef), driftX := some (x - ref.xRef) }
        .calDrift none none) ∧
    (ref.present = false ∨ ¬ far →
      s.calibrateJob j = done { ref with
        present := true, zRef := z, xRef := x, lRef := ref.gaugeLen, rRef := ref.gaugeRad
        calTime := if s.hall.set then some s.hall.count else none
        validUntil :=
          if s.hall.set then some (min 4294967295 (s.hall.count + s.settings.calInterval * 3600)) else none
        timePending := !s.hall.set, pendingAge := 0, lastOutcome := .accepted
        driftZ := if ref.present then some (z - ref.zRef) else none
        driftX := if ref.present then some (x - ref.xRef) else none }
        .calAccepted (some ref.gaugeLen) (some ref.gaugeRad))

/-- SET_GAUGE writes the ranged gauge fields and makes the auto-calibrate check, or is BUSY while a CALIBRATE job is
queued (R110); READ_REFERENCE answers every field with the stale indicator and the three settings (R111);
CLEAR_REFERENCE makes the reference absent and makes the check (R112). What follows the check is the model's reading
(log 12), and the widths of READ_REFERENCE are its reading of R203 (log 24). -/
def Obligations.ReferenceRequestsReachTheRecord : Prop :=
  ∀ (s : State) (c : Caller),
    let t := s.received c.link
    let ref := s.reference
    (∀ (tag : Tag) (l r : BitVec 32) (st sa : Byte), s.Takes c 0x18 → s.hasCalibrate = false →
      let u : State := { t with reference := { ref with
        gaugeTag := tag, gaugeLen := min 9999999 l.toInt.toNat, gaugeRad := min 1999999 r.toInt.toNat
        calStations := max 1 (min 8 st.toNat)
        calSamples :=
          if 8 ≤ sa.toNat then 8 else if 4 ≤ sa.toNat then 4 else if 2 ≤ sa.toNat then 2 else 1 } }
      exec (.setGauge c tag l r st sa) s = .next (State.answered (u.autoCalCheck.settle false) c 0x18
        (if (0 ≤ l.toInt ∧ l.toInt ≤ 9999999) ∧ (0 ≤ r.toInt ∧ r.toInt ≤ 1999999) ∧ (1 ≤ st.toNat ∧ st.toNat ≤ 8) ∧
            (sa.toNat = 1 ∨ sa.toNat = 2 ∨ sa.toNat = 4 ∨ sa.toNat = 8) then .ok else .okClamped) [])) ∧
    (∀ (tag : Tag) (l r : BitVec 32) (st sa : Byte), s.Takes c 0x18 → s.hasCalibrate = true →
      exec (.setGauge c tag l r st sa) s = .next (t.answered c 0x18 .busy [])) ∧
    (s.Takes c 0x19 → exec (.readReference c) s = .next (t.answered c 0x19 .ok
      (leBytes 8 ref.gaugeTag.toNat ++ b4 ref.gaugeLen ++ b4 ref.gaugeRad ++
        (b1 3 ++ b1 ref.calStations ++ b1 ref.calSamples) ++ bFlag ref.present ++ bCount ref.zRef ++ bCount ref.xRef ++
        b4 ref.lRef ++ b4 ref.rRef ++ bOpt 4 ref.calTime ++ bOpt 4 ref.validUntil ++ bFlag ref.timePending ++
        b4 ref.pendingAge ++
        b1 (match ref.lastOutcome with
          | .none => 0
          | .accepted => 1
          | .driftRejected => 2) ++
        bOptInt 8 ref.driftZ ++ bOptInt 8 ref.driftX ++ bFlag s.stale ++ b4 s.settings.calInterval ++
        b4 s.settings.driftLimit ++ b4 s.settings.autoCal))) ∧
    (s.Takes c 0x1A →
      let u : State := { t with reference := { ref with
        present := false, zRef := 0, xRef := 0, lRef := 0, rRef := 0, calTime := none, validUntil := none
        timePending := false, pendingAge := 0 } }
      exec (.clearReference c) s = .next (State.answered (u.autoCalCheck.settle false) c 0x1A .ok []))

/-- SET_TIME sets the clock, dates a pending calibration by its age, makes the auto-calibrate check, and answers what
stood before (R198, R119); GET_TIME answers the mark and the count (R199); an advance adds one to a set clock below
its top and makes the check when it meets valid-until (R197); the pending age counts while time pending is set (R118).
What follows a check is the model's reading (log 12). -/
def Obligations.HallTimeDatesTheReference : Prop :=
  ∀ (s : State) (c : Caller),
    let t := s.received c.link
    let ref := s.reference
    let later : State := { s with hall := { s.hall with count := s.hall.count + 1 } }
    (∀ v : BitVec 32, s.Takes c 0x2D →
      let time := v.toNat
      let use := s.settings.calInterval * 3600
      let u : State := { t with
        hall := { count := time, set := true }
        reference := if ref.timePending then
            { ref with
              calTime := some (if ref.pendingAge ≤ time then time - ref.pendingAge else 0)
              validUntil := some (if ref.pendingAge < use then min 4294967295 (time + (use - ref.pendingAge)) else time)
              timePending := false, pendingAge := 0 }
          else ref }
      exec (.setTime c v) s = .next (State.answered (u.autoCalCheck.settle false) c 0x2D .ok
        (b4 s.hall.count ++ bFlag s.hall.set))) ∧
    (s.Takes c 0x2E →
      exec (.getTime c) s = .next (t.answered c 0x2E .ok (bFlag s.hall.set ++ b4 s.hall.count))) ∧
    (s.mainUp = true → s.hall.set = true → s.hall.count < 4294967295 → ref.validUntil ≠ some (s.hall.count + 1) →
      exec .hallClockAdvance s = .next later.judgeAttention) ∧
    (s.mainUp = true → s.hall.set = true → s.hall.count < 4294967295 → ref.validUntil = some (s.hall.count + 1) →
      exec .hallClockAdvance s = .next (later.autoCalCheck.settle false).judgeAttention) ∧
    (s.mainUp = true → (s.hall.set = false ∨ 4294967295 ≤ s.hall.count) →
      exec .hallClockAdvance s = .next s.judgeAttention) ∧
    (s.mainUp = true → ref.timePending = true → exec .pendingAgeTick s = .next (State.judgeAttention
      { s with reference := { ref with pendingAge := min 4294967295 (ref.pendingAge + 1) } })) ∧
    (s.mainUp = true → ref.timePending = false → exec .pendingAgeTick s = .next s.judgeAttention)

/-! ### Tool issue (07) -/

/-- REQUEST_TOOL within its ranges makes a WAITING ticket with the next free number at the tail of its section, makes
an issue pass, and answers the ticket as the pass left it; a ticket for the same place is DUPLICATE (R124 to R126).
WITHDRAW_TICKET removes the caller's WAITING or FAILED ticket and is BUSY for a DISPENSING one (R127). The answer as
the pass left the ticket is the model's reading (log 15). -/
def Obligations.TicketsAreMadeAndWithdrawn : Prop :=
  ∀ (s : State) (c : Caller),
    let t := s.received c.link
    (∀ (machine place : Byte) (cls : BitVec 16) (life : BitVec 24) (priority : Byte), s.Takes c 0x1B →
      machine.toNat ≤ 63 → 1 ≤ place.toNat → place.toNat ≤ 250 → 1 ≤ cls.toNat → cls.toNat ≤ 4095 →
      priority.toNat ≤ 1 →
      let taken : Prop := ∃ k ∈ s.tickets, k.link = c.link ∧ k.machine = machine.toNat ∧ k.machinePocket = place.toNat
      let n := takeNumber s.nextTicket (s.tickets.map (·.number))
      let k : Ticket :=
        { number := n, link := c.link, machine := machine.toNat, machinePocket := place.toNat, cls := cls.toNat
          minLife := life.toNat, urgent := priority == 1, phase := .waiting, attempts := 0, escalated := none
          starved := false }
      let u : State := { t with
        tickets := if priority = 1 then s.tickets.filter (·.urgent) ++ k :: s.tickets.filter (fun w => !w.urgent)
          else s.tickets ++ [k]
        nextTicket := nextNumber n }
      (taken → exec (.requestTool c machine place cls life priority) s = .next (t.answered c 0x1B .duplicate [])) ∧
      (¬ taken → s.tickets.length < 32 →
        exec (.requestTool c machine place cls life priority) s = .next (State.answered (u.settle true) c 0x1B .accepted
          (match (u.settle true).ticket? n with
            | none => []
            | some w =>
              b2 n ++ b1 w.phase.code ++
                (match w.phase with
                  | .dispensing r => b1 1 ++ b2 r.val
                  | _ => [0, 0, 0]) ++
                bOptRec w.escalated ++ bFlag w.starved)))) ∧
    (∀ (num : BitVec 16) (k : Ticket), s.Takes c 0x1C → s.ticket? num.toNat = some k → k.link = c.link →
      (k.phase = .waiting ∨ k.phase = .failed →
        exec (.withdrawTicket c num) s = .next (State.answered
          { t with tickets := s.tickets.filter (fun w => w.number != num.toNat) } c 0x1C .ok [])) ∧
      (∀ r, k.phase = .dispensing r → exec (.withdrawTicket c num) s = .next (t.answered c 0x1C .busy [])))

/-- The pass at one WAITING ticket. It serves the candidate with the least life, then the lowest number, when a
reservation is free and the arbiter grants the claim; a held claim only clears STARVED. With no candidate and no
escalated record it escalates the PRESET_DUE tool with the most life: its PRESET job goes to the tail of the urgent
section, or stays where it stands there, or one is enqueued; with no such tool, or no job and 16 in the queue, the
ticket is STARVED. With no candidate and an escalated record the ticket is STARVED unless that record is PRESET_DUE with
a PRESET job, MEASURING or READY. A DISPENSING or FAILED ticket is passed over, and the pass goes through the tickets in
queue order, each as the tickets before it have left the state (R131 to R138, R147, R67). -/
def Obligations.PassServesTheLeastLife : Prop :=
  (∀ (s : State) (n : Nat) (k : Ticket), s.ticket? n = some k → k.phase = .waiting →
    let candidate (m : RecNo) : Prop :=
      (s.tool m).state = .ready ∧ (∃ p, (s.tool m).loc = .crib p) ∧ (s.tool m).cls = k.cls ∧
        (s.tool m).recalled = false ∧ s.jobOf? m = none ∧ k.minLife ≤ (s.tool m).lifeRem
    let due (m : RecNo) : Prop :=
      (s.tool m).state = .presetDue ∧ (s.tool m).cls = k.cls ∧ (s.tool m).recalled = false ∧
        k.minLife ≤ (s.tool m).lifeRem ∧ (∀ j, s.jobOf? m = some j → j.kind = .preset) ∧
        ∀ w ∈ s.tickets, w.number ≠ n → w.escalated ≠ some m
    let alive (m : RecNo) : Prop :=
      ((s.tool m).state = .presetDue ∧ ∃ j ∈ s.jobs, j.record = some m ∧ j.kind = .preset) ∨
        (s.tool m).state = .measuring ∨ (s.tool m).state = .ready
    let room : Prop := s.tickets.countP (fun w => w.phase.isDispensing) + s.handoffs.length < 64
    let urgentFetches := min (s.jobs.countP fun j => j.urgent && s.holdsClaim j) (2 - s.fetchingCount)
    let granted : Prop := if k.urgent then s.orders.length < 16 else urgentFetches < 16 - s.orders.length
    let noted (f : Ticket → Ticket) : List Ticket := s.tickets.map fun w => if w.number = n then f w else w
    let starved : State := { s with tickets := noted fun w => { w with starved := true } }
    (∀ r p, candidate r → (s.tool r).loc = .crib p →
      (∀ m, candidate m →
        (s.tool r).lifeRem < (s.tool m).lifeRem ∨ ((s.tool r).lifeRem = (s.tool m).lifeRem ∧ r ≤ m)) →
      room → granted →
      s.passTicket n = { s.setTool r { s.tool r with state := .allocated, version := (s.tool r).version + 1 } with
        orders := s.orders ++ [{ number := takeNumber s.nextOrder (s.orders.map (·.number)), link := .cell n
                                 record := r, pocket := p, phase := .released }]
        nextOrder := nextNumber (takeNumber s.nextOrder (s.orders.map (·.number)))
        tickets := noted fun w => { w with phase := .dispensing r, starved := false } }) ∧
    (∀ m, candidate m → ¬ (room ∧ granted) →
      s.passTicket n = { s with tickets := noted fun w => { w with starved := false } }) ∧
    (∀ r, (∀ m, ¬ candidate m) → k.escalated = none → due r →
      (∀ m, due m → (s.tool m).lifeRem < (s.tool r).lifeRem ∨ ((s.tool r).lifeRem = (s.tool m).lifeRem ∧ r ≤ m)) →
      let told : List Ticket := noted fun w => { w with escalated := some r, starved := false }
      (∀ j, s.jobOf? r = some j → s.job? j.number = some j →
        let others := s.jobs.filter (fun w => w.number != j.number)
        s.passTicket n = { s with
          tickets := told
          jobs := if j.urgent then s.jobs
            else others.filter (·.urgent) ++ { j with urgent := true } :: others.filter (fun w => !w.urgent) }) ∧
      (s.jobOf? r = none → s.jobs.length < 16 →
        s.passTicket n = { (s.enqueue .preset (some r) (s.tool r).plan .escalation true .tail).1 with tickets := told }) ∧
      (s.jobOf? r = none → 16 ≤ s.jobs.length → s.passTicket n = starved)) ∧
    ((∀ m, ¬ candidate m) → k.escalated = none → (∀ m, ¬ due m) → s.passTicket n = starved) ∧
    (∀ m, (∀ m, ¬ candidate m) → k.escalated = some m →
      (alive m → s.passTicket n = s) ∧ (¬ alive m → s.passTicket n = starved))) ∧
  (∀ (s : State) (n : Nat), (∀ k, s.ticket? n = some k → k.phase ≠ .waiting) → s.passTicket n = s) ∧
  ∀ s : State, s.issuePass = (s.tickets.map (·.number)).foldl State.passTicket s

/-- ISSUE_STATUS, LIST_TICKETS, READ_HANDOFF, LIST_HANDOFFS and LIST_ORDERS answer what the tables hold, a cell's link
its own entries only, and change nothing but the link (R128, R129, R178, R157). The bytes of the failure reason and of
the door line are free values, whatever they are (log 18); the width of the attempts and of the place is the model's
choice (log 39). -/
def Obligations.ListingsAnswerTheTables : Prop :=
  ∀ (s : State) (c : Caller) (num : BitVec 16),
    let t := s.received c.link
    let own (l : LinkId) : Bool := (s.link c.link).role != .cell || l == c.link
    (∀ k, s.Takes c 0x1D → s.ticket? num.toNat = some k → own k.link = true →
      exec (.issueStatus c num) s = .next (t.answered c 0x1D .ok
        (b2 k.number ++ b1 k.link.val ++ b1 k.machine ++ b1 k.machinePocket ++ b2 k.cls ++ b3 k.minLife ++
          bFlag k.urgent ++ b1 k.phase.code ++
          (match k.phase with
            | .dispensing r => b1 1 ++ b2 r.val
            | _ => [0, 0, 0]) ++
          b1 k.attempts ++ bOptRec k.escalated ++ bFlag k.starved ++
          (match k.phase with
            | .failed => [1, Config.noRetryLeftCode]
            | _ => [0, 0]) ++
          b1 (s.tickets.findIdx (fun w => w.number == num.toNat) + 1) ++
          (match k.phase with
            | .dispensing _ =>
              match s.orders.find? (fun o => o.link == .cell k.number) with
              | some o => b1 1 ++ b2 o.number ++ b1 o.phase.code
              | none => [0, 0, 0, 0]
            | _ => [0, 0, 0, 0])))) ∧
    (∀ k, s.Takes c 0x1D → s.ticket? num.toNat = some k → own k.link = false →
      exec (.issueStatus c num) s = .next (t.answered c 0x1D .noSuchTicket [])) ∧
    (s.Takes c 0x1E →
      let ks := s.tickets.filter fun k => own k.link
      exec (.listTickets c) s = .next (t.answered c 0x1E .ok
        (b1 ks.length ++ ks.flatMap fun k => b2 k.number ++ b1 k.phase.code))) ∧
    (∀ h, s.Takes c 0x28 → s.handoff? num.toNat = some h → own h.link = true →
      exec (.readHandoff c num) s = .next (t.answered c 0x28 .ok
        (b2 h.number ++ b2 h.ticket ++ b1 h.link.val ++ b1 h.machine ++ b1 h.machinePocket ++ b2 h.record.val ++
          snapshotBytes h.snapshot ++ b1 h.phase.code ++
          (match h.phase with
            | .offered left => b1 1 ++ b2 left
            | .staged => [0, 0, 0]) ++
          b1 (s.tool h.record).state.code ++ b2 (s.tool h.record).version.toNat ++ b3 (s.tool h.record).lifeRem ++
          bFlag (s.tool h.record).recalled))) ∧
    (∀ h, s.Takes c 0x28 → s.handoff? num.toNat = some h → own h.link = false →
      exec (.readHandoff c num) s = .next (t.answered c 0x28 .noSuchHandoff [])) ∧
    (s.Takes c 0x29 →
      let hs := s.handoffs.filter fun h => own h.link
      exec (.listHandoffs c) s = .next (t.answered c 0x29 .ok
        (b1 hs.length ++ hs.flatMap fun h => b2 h.number ++ b1 h.phase.code))) ∧
    (s.Takes c 0x22 → exec (.listOrders c) s = .next (t.answered c 0x22 .ok
      ([Config.doorLineCode s.doorIsOpen] ++ b1 s.fetchingCount ++ b1 s.orders.length ++ s.orders.flatMap fun o =>
        b2 o.number ++
          (match o.link with
            | .cell _ => b1 0
            | .presetter _ => b1 1) ++
          b2 o.record.val ++ b1 o.pocket.val ++
          (match o.link with
            | .cell k => b2 k
            | .presetter j => b2 j) ++
          (match o.phase with
            | .released => [0, 0, 0, 0]
            | .fetched left => b1 1 ++ (b1 1 ++ b2 left)))))

/-! ### Crib orders and deposits (08) -/

/-- FETCH_ORDER takes the oldest RELEASED order while the door is closed and starts its dispense timer with the
setting's length; with the door open, or nothing RELEASED, it answers NONE (R149, R150). The door opening only moves
the line; its closing makes an issue pass and a fetch round (R150). The order of pass and round (log 12) and the
widths of the destination (log 24) are the model's readings. -/
def Obligations.FetchOrderTakesTheOldest : Prop :=
  ∀ (s : State) (c : Caller),
    let t := s.received c.link
    (∀ (o : Order) (before after : List Order), s.Takes c 0x1F → s.doorIsOpen = false →
      s.orders = before ++ o :: after → (∀ b ∈ before, b.phase ≠ .released) → o.phase = .released →
      exec (.fetchOrder c) s = .next (State.answered
        { t with orders := s.orders.map fun q =>
            if q.number = o.number then { q with phase := .fetched s.settings.dispenseTimeout } else q }
        c 0x1F .ok
        (b2 o.number ++
          (match o.link with
            | .cell _ => b1 0
            | .presetter _ => b1 1) ++
          b2 o.record.val ++ leBytes 8 (s.tool o.record).tag.toNat ++ b1 o.pocket.val ++
          (match o.link with
            | .cell n =>
              match s.ticket? n with
              | some k => b1 1 ++ b1 k.link.val ++ b1 k.machine ++ b1 k.machinePocket
              | none => [0, 0, 0, 0]
            | .presetter _ => [0, 0, 0, 0]) ++
          b2 s.settings.dispenseTimeout))) ∧
    (s.Takes c 0x1F → (s.doorIsOpen = true ∨ ∀ o ∈ s.orders, o.phase ≠ .released) →
      exec (.fetchOrder c) s = .next (t.answered c 0x1F .none [])) ∧
    (s.mainUp = true → s.doorIsOpen = false → exec .doorOpens s = .next (State.judgeAttention
      { s with lines := { s.lines with doorLevel := !(s.settings.doorRef == 1) } })) ∧
    (s.mainUp = true → s.doorIsOpen = true → exec .doorCloses s = .next (State.judgeAttention
      (State.settle { s with lines := { s.lines with doorLevel := s.settings.doorRef == 1 } } true)))

/-- ORDER_DONE on a FETCHED order retires it. Delivered to a cell: the record IN_TRANSIT, the ticket gone, a handoff
entry staged with the record as the change leaves it. Delivered to the presetter: the record there, its job WAITING.
Failed: the record CHECK at UNKNOWN with its fault, and the ticket back at the head of its section, or FAILED at the
third attempt, or the job removed with a FETCH_FAILED entry in the log of 32, the oldest overwritten, and the
auto-calibrate check made. The dispense timer's expiry is a failure with ORDER_TIMEOUT. A pass, a fetch round and the
engine's choice follow (R151 to R154, R140, R141, R72, R73, R85, R69, R169, R156). Their order is the model's reading
(log 12). That DISPENSE_TIMEOUT acts whatever seconds the FETCHED order has left is the model's choice (log 6). -/
def Obligations.OrderDoneMovesTheTool : Prop :=
  ∀ (s : State) (c : Caller) (num : BitVec 16) (o : Order) (left : Nat), s.order? num.toNat = some o →
    o.phase = .fetched left →
    let r := s.tool o.record
    let v := r.version + 1
    let t := s.received c.link
    let rest := s.orders.filter (fun q => q.number != num.toNat)
    let done (u : State) (st : RecState) : State :=
      State.answered (u.settle true) c 0x20 .ok (b2 o.record.val ++ b1 st.code ++ b2 v.toNat)
    let lost (t : State) (fault : LastFault) : State :=
      t.setTool o.record { r with state := .check, loc := .unknown, lastFault := fault, version := v }
    (∀ n k, s.Takes c 0x20 → o.link = .cell n → s.ticket? n = some k → r.state = .allocated →
      let moved : ToolRecord := { r with state := .inTransit, loc := .transit, version := v }
      let h : Handoff :=
        { number := takeNumber s.nextHandoff (s.handoffs.map (·.number)), ticket := n, link := k.link
          machine := k.machine, machinePocket := k.machinePocket, record := o.record
          snapshot := { tag := r.tag, cls := r.cls, presetLen := r.presetLen, presetRad := r.presetRad
                        lifeRem := r.lifeRem, lifeMode := r.lifeMode, presetJob := r.presetJob
                        presetTime := r.presetTime, version := v }
          phase := .staged }
      exec (.orderDone c num 0) s = .next (done { t.setTool o.record moved with
        orders := rest, tickets := s.tickets.filter (fun w => w.number != n), handoffs := s.handoffs ++ [h]
        nextHandoff := nextNumber h.number } .inTransit)) ∧
    (∀ n, s.Takes c 0x20 → o.link = .presetter n → (∃ p, r.loc = .crib p) →
      exec (.orderDone c num 0) s = .next (done { t.setTool o.record { r with loc := .presetter, version := v } with
        orders := rest, jobs := s.jobs.map fun j => if j.number = n then { j with phase := .waiting } else j }
        r.state)) ∧
    (∀ n k, o.link = .cell n → s.ticket? n = some k → r.state = .allocated →
      let again : Ticket := { k with attempts := k.attempts + 1, phase := .waiting }
      let others := s.tickets.filter (fun w => w.number != n)
      let tickets : List Ticket :=
        if 3 ≤ k.attempts + 1 then
          s.tickets.map fun w => if w.number = n then { w with attempts := w.attempts + 1, phase := .failed } else w
        else if k.urgent then again :: others
        else others.filter (·.urgent) ++ again :: others.filter (fun w => !w.urgent)
      (s.Takes c 0x20 → exec (.orderDone c num 1) s =
        .next (done { lost t .pocketEmpty with orders := rest, tickets := tickets } .check)) ∧
      (s.Takes c 0x20 → exec (.orderDone c num 2) s =
        .next (done { lost t .jammed with orders := rest, tickets := tickets } .check)) ∧
      (s.mainUp = true → exec (.dispenseTimeout num) s = .next (State.judgeAttention
        (State.settle { lost s .orderTimeout with orders := rest, tickets := tickets } true)))) ∧
    (∀ n j, o.link = .presetter n → s.job? n = some j → j.phase ≠ .current → j.record = some o.record →
      r.state ≠ .check →
      let entry : LogEntry :=
        { job := n, kind := j.kind, record := some o.record, tag := r.tag, status := .fetchFailed
          flags := JobFlags.clear, stations := 0, length := none, radius := none, runout := none
          hallTime := if s.hall.set then some s.hall.count else none }
      let gone (u : State) : State := State.autoCalCheck
        { u with
          orders := rest, jobs := s.jobs.filter (fun w => w.number != n), unread := true
          log := (s.log ++ [entry]).drop (s.log.length + 1 - 32) }
      (s.Takes c 0x20 → exec (.orderDone c num 1) s = .next (done (gone (lost t .pocketEmpty)) .check)) ∧
      (s.Takes c 0x20 → exec (.orderDone c num 2) s = .next (done (gone (lost t .jammed)) .check)) ∧
      (s.mainUp = true → exec (.dispenseTimeout num) s =
        .next (State.judgeAttention (State.settle (gone (lost s .orderTimeout)) true))))

/-- DEPOSIT places a tool in a free pocket. A tool at the presetter keeps its state; a RETURNING one becomes
QUARANTINE, WORN or PRESET_DUE, with a RETURN job for the last when the setting is on and the queue has room; a CHECK
one becomes PRESET_DUE; a recalled one ends in QUARANTINE. A job offered for it is taken back. A pass follows when it
is READY, then a fetch round and the engine's choice; the version rises once for the whole change, the pass included
(R159 to R164, R76, R130, R11). Their order and the answer after the pass are the model's readings (logs 12, 14, 15).
-/
def Obligations.DepositPlacesTheTool : Prop :=
  ∀ (s : State) (c : Caller) (tag : Tag) (pocket : Byte) (n : RecNo) (p : Fin 240), s.Takes c 0x21 → tag ≠ 0 →
    pocket.toNat = p.val → s.holder? tag = some n → (∀ k, k ≠ n → (s.tool k).loc ≠ .crib p) →
    let t := s.received c.link
    let r := s.tool n
    let placed (st : RecState) : State :=
      t.setTool n { r with state := if r.recalled then .quarantine else st, loc := .crib p, version := r.version + 1 }
    let done (w : State) (job : Option Nat) : State :=
      State.answered (w.setTool n { w.tool n with version := r.version + 1 }) c 0x21 .ok
        (b2 n.val ++ b1 (w.tool n).state.code ++ b2 (r.version + 1).toNat ++ bOpt 2 job)
    (r.loc = .presetter → (r.state = .ready ∨ r.state = .presetDue ∨ r.state = .quarantine) →
      (∀ j, s.currentJob? = some j → ¬ (j.record = some n ∧ s.engine.phase = .offered)) →
      exec (.deposit c tag pocket) s =
        .next (done ((placed r.state).settle (r.state == .ready && !r.recalled)) none)) ∧
    (∀ j, r.loc = .presetter → (r.state = .ready ∨ r.state = .presetDue ∨ r.state = .quarantine) →
      s.currentJob? = some j → j.record = some n → s.engine.phase = .offered →
      let u : State := { placed r.state with
        jobs := s.jobs.map fun k => if k.number = j.number then { k with phase := .waiting } else k
        engine := Engine.idle }
      exec (.deposit c tag pocket) s =
        .next (done (u.applyParked.settle (r.state == .ready && !r.recalled)) none)) ∧
    (r.loc = .transit → r.state = .returning → s.jobOf? n = none →
      let st : RecState := if r.damaged then .quarantine else if r.lifeRem = 0 then .worn else .presetDue
      let q := (placed st).enqueue .preset (some n) r.plan .returned false .tail
      exec (.deposit c tag pocket) s = .next
        (if st = .presetDue ∧ r.recalled = false ∧ s.settings.rePreset = 1 ∧ s.jobs.length < 16 then
          done (q.1.settle false) (some q.2) else done ((placed st).settle false) none)) ∧
    (r.loc = .unknown → r.state = .check → s.jobOf? n = none →
      exec (.deposit c tag pocket) s = .next (done ((placed .presetDue).settle false) none))

/-! ### Handoff and tool life (09) -/

/-- FETCH_HANDOFF offers the caller's oldest STAGED entry with its load timer (R171). CONFIRM_LOAD with the snapshot's
tag puts the record IN_MACHINE at the entry's place (R172, R173), REJECT_HANDOFF makes it RETURNING and DAMAGED
(R174), and the load timer's expiry makes it CHECK at UNKNOWN (R176): each retires the entry and makes an issue pass
(R177). The round and the choice after it are the model's reading (log 13). That LOAD_TIMEOUT acts whatever seconds the
OFFERED entry has left is the model's choice (log 6). -/
def Obligations.HandoffEndsMoveTheTool : Prop :=
  ∀ (s : State) (c : Caller) (num : BitVec 16),
    let t := s.received c.link
    (∀ (h : Handoff) (before after : List Handoff), s.Takes c 0x23 → s.handoffs = before ++ h :: after →
      (∀ b ∈ before, ¬ (b.link = c.link ∧ b.phase = .staged)) → h.link = c.link → h.phase = .staged →
      exec (.fetchHandoff c) s = .next (State.answered
        { t with handoffs := s.handoffs.map fun k =>
            if k.number = h.number then { k with phase := .offered s.settings.loadTimeout } else k }
        c 0x23 .ok
        (b2 h.number ++ b2 h.ticket ++ b1 h.machine ++ b1 h.machinePocket ++ b2 h.record.val ++
          snapshotBytes h.snapshot ++ b2 s.settings.loadTimeout))) ∧
    (s.Takes c 0x23 → (∀ h ∈ s.handoffs, ¬ (h.link = c.link ∧ h.phase = .staged)) →
      exec (.fetchHandoff c) s = .next (t.answered c 0x23 .none [])) ∧
    (∀ (h : Handoff) (left : Nat), s.handoff? num.toNat = some h → h.phase = .offered left →
      (s.tool h.record).state = .inTransit →
      let r := s.tool h.record
      let v := r.version + 1
      let rest := s.handoffs.filter (fun k => k.number != num.toNat)
      (h.link = c.link → s.Takes c 0x24 → h.snapshot.tag ≠ 0 →
        exec (.confirmLoad c num h.snapshot.tag) s = .next (State.answered
          (State.settle { t.setTool h.record { r with
            state := .inMachine, version := v
            loc := .machine { link := h.link, machine := h.machine, pocket := h.machinePocket } } with
            handoffs := rest } true)
          c 0x24 .ok (b2 h.record.val ++ b1 6 ++ b2 v.toNat ++ b3 r.lifeRem ++ bFlag r.recalled ++
            bFlag (r.version != h.snapshot.version)))) ∧
      (h.link = c.link → s.Takes c 0x25 →
        exec (.rejectHandoff c num) s = .next (State.answered
          (State.settle { t.setTool h.record { r with
            state := .returning, loc := .transit, damaged := true, version := v } with handoffs := rest } true)
          c 0x25 .ok (b2 h.record.val ++ b1 7 ++ b2 v.toNat))) ∧
      (s.mainUp = true → exec (.loadTimeout num) s = .next (State.judgeAttention
        (State.settle { s.setTool h.record { r with
          state := .check, loc := .unknown, lastFault := .loadTimeout, version := v } with handoffs := rest } true))))

/-- REPORT_USAGE lowers the life of a tool in the caller's machine, to 0 at the least, and raises the version only when
the life changed (R179, R11); REPORT_UNLOAD makes the tool RETURNING at TRANSIT (R180). From another link both are
NOT_YOURS. -/
def Obligations.UsageLowersTheLife : Prop :=
  ∀ (s : State) (c : Caller) (n : RecNo) (num : BitVec 16) (q : Place), num.toNat = n.val →
    (s.tool n).state = .inMachine → (s.tool n).loc = .machine q →
    let t := s.received c.link
    let r := s.tool n
    (∀ amount : BitVec 24, s.Takes c 0x26 → q.link = c.link →
      let life := r.lifeRem - amount.toNat
      let v := if life = r.lifeRem then r.version else r.version + 1
      exec (.reportUsage c num amount) s = .next (State.answered (t.setTool n { r with lifeRem := life, version := v })
        c 0x26 .ok (b3 life ++ b2 v.toNat ++ b3 (r.lifeRem - life)))) ∧
    (s.Takes c 0x27 → q.link = c.link →
      exec (.reportUnload c num) s = .next (State.answered
        (t.setTool n { r with state := .returning, loc := .transit, version := r.version + 1 })
        c 0x27 .ok (b1 7 ++ b2 (r.version + 1).toNat ++ b3 r.lifeRem))) ∧
    (∀ amount : BitVec 24, s.Takes c 0x26 → q.link ≠ c.link →
      exec (.reportUsage c num amount) s = .next (t.answered c 0x26 .notYours [])) ∧
    (s.Takes c 0x27 → q.link ≠ c.link →
      exec (.reportUnload c num) s = .next (t.answered c 0x27 .notYours []))

/-! ### Conditions, settings and the retention-lost latch (10, 11) -/

/-- CONDITION_POLL answers the highest pending condition with its parameter, the codes of all, and the mask, whatever
the mask is (R192). The conditions of each role are pending exactly while the tables' states hold, each with its
parameter: the lowest record, the first ticket in queue order, the oldest entry or order, the current job, the newest
log entry's job, or none (R187 to R190); a DISABLED link has none (R186). SET_MASK replaces the mask or refuses a bad
one (R193), and CLEAR_RETENTION_LOST clears the latch (R196). Marks as 1 and 0 (log 19) and the refusal of a bad
SET_MASK (log 21) are the model's readings. -/
def Obligations.PollReportsTheConditions : Prop :=
  ∀ (s : State) (c : Caller),
    let t := s.received c.link
    let cs := s.conditions c.link
    let pending (code : Nat) : Prop := code ∈ cs.map (·.code)
    let plain (code : Nat) (holds : Prop) : Prop :=
      (pending code ↔ holds) ∧ (holds → { code := code, param := none } ∈ cs)
    let lowest (code : Nat) (holds : RecNo → Prop) : Prop :=
      (pending code ↔ ∃ n, holds n) ∧
        ∀ n, holds n → (∀ m, holds m → n ≤ m) → { code := code, param := some n.val } ∈ cs
    (s.Takes c 0x2A → exec (.conditionPoll c) s = .next (t.answered c 0x2A .ok
      ((match cs with
          | [] => [0, 0, 0, 0]
          | d :: _ => b1 d.code ++ bOpt 2 d.param) ++
        b1 cs.length ++ (cs.map (·.code)).flatMap b1 ++ (s.link c.link).mask.flatMap bFlag))) ∧
    ((cs.map (·.code)).Pairwise (· < ·)) ∧ ((s.link c.link).role = .disabled → cs = []) ∧
    ((s.link c.link).role = .cell →
      let failed (k : Ticket) : Prop := k.link = c.link ∧ k.phase = .failed
      let staged (h : Handoff) : Prop := h.link = c.link ∧ h.phase = .staged
      lowest 1 (fun n => (s.tool n).recalled = true ∧
        (((s.tool n).state = .inMachine ∧ ∃ q, (s.tool n).loc = .machine q ∧ q.link = c.link) ∨
          ∃ h ∈ s.handoffs, h.record = n ∧ h.link = c.link)) ∧
      lowest 2 (fun n => (s.tool n).state = .inMachine ∧ (s.tool n).lifeRem = 0 ∧
        ∃ q, (s.tool n).loc = .machine q ∧ q.link = c.link) ∧
      (pending 3 ↔ ∃ k ∈ s.tickets, failed k) ∧
      (∀ before k after, s.tickets = before ++ k :: after → (∀ w ∈ before, ¬ failed w) → failed k →
        { code := 3, param := some k.number } ∈ cs) ∧
      (pending 4 ↔ ∃ h ∈ s.handoffs, staged h) ∧
      (∀ before h after, s.handoffs = before ++ h :: after → (∀ w ∈ before, ¬ staged w) → staged h →
        { code := 4, param := some h.number } ∈ cs)) ∧
    ((s.link c.link).role = .crib →
      (pending 1 ↔ s.doorIsOpen = false ∧ ∃ o ∈ s.orders, o.phase = .released) ∧
      (∀ before o after, s.doorIsOpen = false → s.orders = before ++ o :: after →
        (∀ w ∈ before, w.phase ≠ .released) → o.phase = .released → { code := 1, param := some o.number } ∈ cs) ∧
      plain 2 (s.doorIsOpen = true)) ∧
    ((s.link c.link).role = .presetter →
      plain 1 (s.stale = true) ∧
      (pending 2 ↔ s.engine.phase = .stationDone) ∧
      (∀ j, s.engine.phase = .stationDone → s.currentJob? = some j → { code := 2, param := some j.number } ∈ cs) ∧
      (pending 3 ↔ s.unread = true) ∧
      (∀ e, s.unread = true → s.log.getLast? = some e → { code := 3, param := some e.job } ∈ cs) ∧
      (pending 4 ↔ s.engine.phase = .offered) ∧
      (∀ j, s.engine.phase = .offered → s.currentJob? = some j → { code := 4, param := some j.number } ∈ cs) ∧
      plain 5 (s.guardIsOpen = true)) ∧
    ((s.link c.link).role = .supervisor →
      plain 1 (s.retentionLost = true) ∧ lowest 2 (fun n => (s.tool n).state = .check) ∧
      lowest 3 (fun n => (s.tool n).state = .quarantine) ∧ plain 4 (s.stale = true) ∧
      plain 5 (s.reference.lastOutcome = .driftRejected) ∧ lowest 6 (fun n => (s.tool n).state = .worn) ∧
      plain 7 (s.hall.set = false)) ∧
    (∀ (count : Byte) (enables : List Byte), s.Takes c 0x2B →
      let good : Prop := count.toNat = (s.link c.link).role.conditionCount ∧ enables.length = count.toNat ∧
        ∀ e ∈ enables, e.toNat ≤ 1
      (good → exec (.setMask c count enables) s = .next (State.answered
        (t.changeLink c.link fun k => { k with mask := enables.map fun e => e == 1 }) c 0x2B .ok enables)) ∧
      (¬ good → exec (.setMask c count enables) s = .next (t.answered c 0x2B .outOfRange []))) ∧
    (s.Takes c 0x2C → exec (.clearRetentionLost c) s = .next (State.answered
      { t with retentionLost := false } c 0x2C .ok []))

/-- SET_SETTING brings the value into the setting's range. A measurement setting becomes active while the engine is
IDLE, marking the index check and reaching the qualifier or the angle, and is parked otherwise (R208, R56, R57);
another becomes active at once, auto-calibrate turned on makes its check (R109), and a door reference level that
closes the door makes a pass and a round (R150). What follows a check is the model's reading (log 12). The parked
values, applied: each slot's value becomes active and the slot is emptied; when a value changed the index check is
marked, the qualifier is taken afresh from the lines where the dwell, the dead time or a level changed, and the angle is
brought onto the new circle; nothing else changes (R58, R56, R46). That the setting number takes one byte is the
model's choice (log 39). -/
def Obligations.SettingsAreRangedAndParked : Prop :=
  (∀ (s : State) (c : Caller) (number : Byte) (value : BitVec 32) (i : SettingId), s.Takes c 0x2F →
    settingOf? number.toNat = some i →
    let t := s.received c.link
    let v := max i.range.1 (min i.range.2 value.toNat)
    let code : ReplyCode := if i.range.1 ≤ value.toNat ∧ value.toNat ≤ i.range.2 then .ok else .okClamped
    let done (u : State) (outcome : ReplyCode) : State := State.answered u c 0x2F outcome (b1 number.toNat ++ b4 v)
    let put : State := { t with settings := s.settings.put i v }
    let marked : State := { put with capture := { s.capture with checkPending := true } }
    let afresh : State := { put with capture := { s.capture with
      checkPending := true
      qualifier := if put.guardIsOpen then .guarded else if put.edgeIsActive then .heldActive else .listening } }
    let folded : State := { put with capture := { s.capture with checkPending := true, a := s.capture.a % v } }
    (i.isMeasurement = true → s.engine.phase ≠ .idle →
      exec (.setSetting c number value) s = .next (done { t with parked := s.parked.put i (some v) } .parked)) ∧
    (i.isMeasurement = true → s.engine.phase = .idle →
      exec (.setSetting c number value) s = .next (done
        (if s.settings.get i = v then t
         else if i = .dwell ∨ i = .deadTime ∨ i = .edgePolarity ∨ i = .guardRef then afresh
         else if i = .countsPerRev then folded
         else marked) code)) ∧
    (i.isMeasurement = false →
      exec (.setSetting c number value) s = .next (done
        (if i = .autoCal ∧ s.settings.autoCal ≠ 1 ∧ v = 1 then put.autoCalCheck.settle false
         else if i = .doorRef ∧ s.doorIsOpen = true ∧ put.doorIsOpen = false then put.settle true
         else put) code))) ∧
  ∀ s : State,
    let old := s.settings
    let new : Settings := { old with
      dwell := s.parked.dwell.getD old.dwell, deadTime := s.parked.deadTime.getD old.deadTime
      angleTol := s.parked.angleTol.getD old.angleTol, countsPerRev := s.parked.countsPerRev.getD old.countsPerRev
      zScale := s.parked.zScale.getD old.zScale, xScale := s.parked.xScale.getD old.xScale
      edgePolarity := s.parked.edgePolarity.getD old.edgePolarity, guardRef := s.parked.guardRef.getD old.guardRef }
    let levels : Bool := new.dwell != old.dwell || new.deadTime != old.deadTime ||
      new.edgePolarity != old.edgePolarity || new.guardRef != old.guardRef
    let u : State := { s with settings := new, parked := Parked.empty }
    s.applyParked = { u with capture := { s.capture with
      checkPending := s.capture.checkPending || decide (new ≠ old)
      qualifier := if levels then
          (if u.guardIsOpen then .guarded else if u.edgeIsActive then .heldActive else .listening)
        else s.capture.qualifier
      a := if new.countsPerRev = old.countsPerRev then s.capture.a else s.capture.a % new.countsPerRev } }

/-- GET_SETTING answers the number, the active value and the parked slot, whose marker is 0 for settings 9 to 16; a number
outside 1..16 is OUT_OF_RANGE; nothing changes but the link (R209, R59). That the setting number takes one byte is the
model's choice (log 39). -/
def Obligations.GetSettingReadsTheSetting : Prop :=
  ∀ (s : State) (c : Caller) (number : Byte), s.Takes c 0x30 →
    let t := s.received c.link
    (∀ i, settingOf? number.toNat = some i →
      exec (.getSetting c number) s = .next (t.answered c 0x30 .ok
        (b1 number.toNat ++ b4 (s.settings.get i) ++
          (match s.parked.get i with
            | none => [0, 0, 0, 0, 0]
            | some v => b1 1 ++ b4 v))) ∧
      (9 ≤ number.toNat → s.parked.get i = none)) ∧
    ((number.toNat = 0 ∨ 17 ≤ number.toNat) →
      exec (.getSetting c number) s = .next (t.answered c 0x30 .outOfRange []))

/-! ### Station links (11) -/

/-- A request answered with a refusal, codes 7 to 31, changes nothing but its link's receiver and transmitter and the
attention lines (R12, R207). A request not open to the link's role is ROLE_REFUSED without results, and a function
code outside the table is BAD_FUNCTION, or ROLE_REFUSED on a DISABLED link (R207, R202). The answer's code to a
function code above 0x7F is the model's reading (log 22). -/
def Obligations.RefusedRequestsChangeNothing : Prop :=
  ∀ (i : Instr) (c : Caller) (s : State), i.caller = some c → s.mainUp = true → (s.link c.link).ignoring = false →
    (s.link c.link).waiting = none → (s.link c.link).tx = none →
    let said (a : Answer) : State :=
      State.judgeAttention ((s.received c.link).changeLink c.link fun k => { k with tx := some a })
    (∀ u a, exec i s = .next u → (u.link c.link).tx = some a → 7 ≤ a.code.code → u = said a) ∧
    (∀ code, i.code = some code → (s.link c.link).role ∉ requestRoles code →
      exec i s = .next (said { function := BitVec.ofNat 8 (code + 0x80), tagByte := c.tagByte
                               code := .roleRefused, results := [] })) ∧
    (∀ function params, i = .undefinedFunction c function params → i.wellFormed = true →
      exec i s = .next (said { function := function + 0x80, tagByte := c.tagByte
                               code := if (s.link c.link).role = .disabled then .roleRefused else .badFunction
                               results := [] }))

/-- A request command is its frame: the frame of a well-formed request, received whole with its check, does what the
request does (R203 to R207). A frame with a good check is taken at once by an idle link and answered; while an answer is
being sent it is put in the empty waiting place; and it is discarded while another frame waits there, the receiver going
to HUNTING (R205, R206). A frame with a bad check, or a length outside 2..240, is discarded with its receiver in HUNTING
(R205), and a receiver that ignores its line after a break takes none (R211). A frame of the table with the wrong number
of parameter bytes is OUT_OF_RANGE (R207); EDIT_DATA and SET_MASK have no fixed number. An answer's frame is the sync
byte, the length byte, the function code, the tag byte, the outcome code, the results and the check over all but the
sync byte, high byte first (R203, R204). That a request command is its frame (logs 3, 4), that a SET_MASK without a
count byte is OUT_OF_RANGE (log 21), and that the state holds an answer as its items (log 31) are the model's readings;
that the setting number of SET_SETTING and GET_SETTING takes one byte is its choice (log 39). -/
def Obligations.FramesRunTheirRequests : Prop :=
  (∀ (i : Instr) (c : Caller) (s : State), i.wellFormed = true → i.caller = some c →
    let body := i.functionByte :: c.tagByte :: i.params
    exec (.frameReceived c.link body (frameCheck (lengthByte body :: body))) s = exec i s) ∧
  (∀ (l : LinkId) (f : Frame) (s : State), s.mainUp = true → (s.link l).ignoring = false → f.params.length ≤ 238 →
    let body := f.function :: f.tagByte :: f.params
    let good : Instr := .frameReceived l body (frameCheck (lengthByte body :: body))
    let r := judgeFrame l f (s.received l)
    ((s.link l).waiting = none → (s.link l).tx = none →
      exec good s = .next (State.judgeAttention (r.1.changeLink l fun k =>
        { k with tx := some { function := f.function + 0x80, tagByte := f.tagByte, code := r.2.code
                              results := r.2.results } }))) ∧
    ((s.link l).waiting = none → (s.link l).tx ≠ none →
      exec good s = .next (State.judgeAttention (s.changeLink l fun k =>
        { k with receiver := .hunting, spaceChars := 0, waiting := some f }))) ∧
    ((s.link l).waiting ≠ none →
      exec good s = .next (State.judgeAttention (s.changeLink l fun k => { k with receiver := .hunting, spaceChars := 0 })))) ∧
  (∀ (l : LinkId) (body : List Byte) (check : BitVec 16) (s : State), s.mainUp = true →
    ((s.link l).ignoring = false →
      (check ≠ frameCheck (lengthByte body :: body) ∨ body.length < 2 ∨ 240 < body.length) →
      exec (.frameReceived l body check) s = .next (s.received l).judgeAttention) ∧
    ((s.link l).ignoring = true → exec (.frameReceived l body check) s = .next s.judgeAttention)) ∧
  (∀ (c : Caller) (function : Byte) (params : List Byte) (s : State), s.Takes c function.toNat →
    1 ≤ function.toNat → function.toNat ≤ 48 → params.length ≤ 238 →
    ((function ≠ 0x0B ∧ function ≠ 0x2B ∧ params.length ≠ (paramWidths function.toNat).sum) ∨
      (function = 0x2B ∧ params = [])) →
    let body := function :: c.tagByte :: params
    exec (.frameReceived c.link body (frameCheck (lengthByte body :: body))) s =
      .next (State.answered (s.received c.link) c function.toNat .outOfRange [])) ∧
  ∀ (k : Link) (a : Answer),
    let body := a.function :: a.tagByte :: BitVec.ofNat 8 a.code.code :: a.results
    let check := frameCheck (BitVec.ofNat 8 body.length :: body)
    (k.tx = none → k.sending = []) ∧
    (k.tx = some a → k.sending =
      0xC3 :: BitVec.ofNat 8 body.length :: body ++ [check.extractLsb' 8 8, check.extractLsb' 0 8])

/-- The characters of a frame, one after another on a line that is heeded and a receiver that is HUNTING, are the frame:
after the sync byte, the length byte, the body and the high check byte the receiver holds them and nothing else has
changed but the attention lines, and the low check byte completes the frame (R203, R205). -/
def Obligations.CharactersMakeTheFrame : Prop :=
  ∀ (l : LinkId) (body : List Byte) (check : BitVec 16) (s : State), s.mainUp = true → (s.link l).ignoring = false →
    (s.link l).receiver = .hunting → 2 ≤ body.length → body.length ≤ 240 →
    let hi : Byte := check.extractLsb' 8 8
    let lo : Byte := check.extractLsb' 0 8
    let held := State.judgeAttention (s.changeLink l fun k =>
      { k with receiver := .body body.length (body ++ [hi]), spaceChars := 0 })
    frameBytes body check = (0xC3 :: BitVec.ofNat 8 body.length :: body) ++ [hi, lo] ∧
    runAll ((frameBytes body check).dropLast.map fun b => .characterReceived l b true) s = .next held ∧
    exec (.characterReceived l lo true) held = exec (.frameReceived l body check) held

/-- The parameters of a request decode to that request: no operand is dropped, at any value (R203). The one byte of a
setting number is the model's choice (log 39). -/
def Obligations.RequestsDecodeFromTheirParameters : Prop :=
  ∀ (i : Instr) (c : Caller) (code : Nat), i.wellFormed = true → i.caller = some c → i.code = some code →
    decodeRequest c code i.params = some i ∧ i.params.length ≤ 238 ∧
      (i.functionByte.toNat = code ∧ 1 ≤ code ∧ code ≤ 48)

/-- The receiver's single characters (R205, R201): a byte in HUNTING, in LENGTH, and in BODY before the frame is
complete; a framing error drops the partial frame; the 20 ms gap drops it too. The end of an answer takes the waiting
frame (R206). A break resets the link once: receiver, waiting place, transmitter, edit and mask, and on the PRESETTER
link the current job and the unread flag; the line back at mark ends the ignoring (R211, R88). The count of spaces
(log 23) and an event whose line or timer does not stand (log 7) are the model's readings. -/
def Obligations.LinkEventsMoveTheLink : Prop :=
  ∀ (s : State) (l : LinkId), s.mainUp = true →
    let at_ (f : Link → Link) : Host.Outcome State Fault Refusal := .next (s.changeLink l f).judgeAttention
    let cut (k : Link) : Link :=
      { k with receiver := .hunting, ignoring := true, spaceChars := 0, waiting := none, tx := none, edit := none
               mask := List.replicate k.role.conditionCount true }
    let heard (r : Receiver) : Host.Outcome State Fault Refusal := at_ fun k => { k with receiver := r, spaceChars := 0 }
    (∀ b stop, (s.link l).ignoring = true → exec (.characterReceived l b stop) s = .next s.judgeAttention) ∧
    ((s.link l).ignoring = false →
      (∀ b, (s.link l).receiver = .hunting →
        exec (.characterReceived l b true) s = heard (if b = 0xC3 then .length else .hunting)) ∧
      (∀ b, (s.link l).receiver = .length →
        exec (.characterReceived l b true) s =
          heard (if 2 ≤ b.toNat ∧ b.toNat ≤ 240 then .body b.toNat [] else .hunting)) ∧
      (∀ b n got, (s.link l).receiver = .body n got → got.length + 1 < n + 2 →
        exec (.characterReceived l b true) s = heard (.body n (got ++ [b]))) ∧
      (∀ hi lo body, (s.link l).receiver = .body body.length (body ++ [hi]) →
        exec (.characterReceived l lo true) s = exec (.frameReceived l body (hi ++ lo)) s) ∧
      (∀ b, exec (.characterReceived l b false) s = at_ fun k =>
        { k with receiver := .hunting, spaceChars := if b = 0 then min 2 (k.spaceChars + 1) else 0 })) ∧
    exec (.receiveGapTimeout l) s = at_ (fun k => { k with receiver := .hunting }) ∧
    ((s.link l).tx = none → exec (.answerSent l) s = .next s.judgeAttention) ∧
    (∀ a, (s.link l).tx = some a → (s.link l).waiting = none →
      exec (.answerSent l) s = at_ fun k => { k with tx := none }) ∧
    (∀ a f, (s.link l).tx = some a → (s.link l).waiting = some f →
      let r := judgeFrame l f (s.changeLink l fun k => { k with tx := none, waiting := none })
      exec (.answerSent l) s = .next (State.judgeAttention (r.1.changeLink l fun k =>
        { k with tx := some { function := f.function + 0x80, tagByte := f.tagByte, code := r.2.code
                              results := r.2.results } }))) ∧
    ((s.link l).ignoring = true → exec (.linkBreak l) s = .next s.judgeAttention) ∧
    ((s.link l).ignoring = false → (s.link l).role ≠ .presetter → exec (.linkBreak l) s = at_ cut) ∧
    ((s.link l).ignoring = false → (s.link l).role = .presetter → s.currentJob? = none →
      exec (.linkBreak l) s = .next (State.judgeAttention { s.changeLink l cut with unread := false })) ∧
    (∀ j, (s.link l).ignoring = false → (s.link l).role = .presetter → s.currentJob? = some j →
      exec (.linkBreak l) s = .next (State.judgeAttention
        { (s.changeLink l cut).stopJob j .aborted with unread := false })) ∧
    exec (.breakLineReturnsToMark l) s = at_ fun k => { k with ignoring := false, spaceChars := 0 }

/-! ### Invariants -/

/-- After every step each attention line is as it must be judged, while main power is up (R195). -/
def Obligations.StepsKeepAttentionJudged : Prop :=
  ∀ s t : State, s.AttentionJudged → step s = .next t → t.AttentionJudged

/-- Every step keeps the collections within their sizes (R18, R62, R85, R122, R144), and the handoff entries with the
DISPENSING tickets within the handoff table's 64 places, which numbers of their own, a DISPENSING ticket for each order
to a cell and one order for each such ticket ensure (R166, R124, R135, R145). -/
def Obligations.StepsKeepTheSizes : Prop :=
  ∀ s t : State, step s = .next t → (s.WithinSizes → t.WithinSizes) ∧ (s.Reserved → t.Reserved)

/-- Every step keeps the active values and the parked slots in their ranges and the angle on its circle (R43, R55, R57,
R208). -/
def Obligations.StepsKeepTheSettingsRanged : Prop :=
  ∀ s t : State, s.SettingsRanged → step s = .next t → t.SettingsRanged

/-- Every step keeps life remaining at or below life initial (R8), no two records with one tag and no job whose prior
state is EMPTY (R7, R63, R105; the second is what keeps the first when a job's record takes its prior state), no two
records in one crib pocket (R6), urgent jobs and tickets ahead of normal ones (R62, R122), the recall list a set of
nonzero tags (R18), one PRESETTER and one CRIB at most (R200), and the hall clock's count in its range and 0 while unset
(R197). -/
def Obligations.StepsKeepThePartProper : Prop :=
  ∀ s t : State, step s = .next t →
    (s.LifeBounded → t.LifeBounded) ∧ (s.TagsProper ∧ s.PriorsProper → t.TagsProper ∧ t.PriorsProper) ∧
      (s.PocketsSingle → t.PocketsSingle) ∧ (s.UrgentFirst → t.UrgentFirst) ∧ (s.RecallsProper → t.RecallsProper) ∧
      (s.RolesSingle → t.RolesSingle) ∧ (s.HallProper → t.HallProper)

/-- The state at reset meets every invariant. -/
def Obligations.ResetMeetsTheInvariants : Prop :=
  State.reset.AttentionJudged ∧ State.reset.WithinSizes ∧ State.reset.Reserved ∧ State.reset.SettingsRanged ∧
    State.reset.LifeBounded ∧ State.reset.TagsProper ∧ State.reset.PriorsProper ∧ State.reset.PocketsSingle ∧
    State.reset.UrgentFirst ∧ State.reset.RecallsProper ∧ State.reset.RolesSingle ∧ State.reset.HallProper
end

