-- ==== Sys2Proof/Laws/State.lean ====
section
/-! SUPPORT. One lemma per field for each plain update of the state, so that no later proof unfolds a record update. -/

namespace Sys2Proof.Machine

/-! ### setTool -/

@[simp] theorem State.setTool_pending (s : State) (n : RecNo) (r : ToolRecord) : (s.setTool n r).pending = s.pending := rfl
@[simp] theorem State.setTool_mainUp (s : State) (n : RecNo) (r : ToolRecord) : (s.setTool n r).mainUp = s.mainUp := rfl
@[simp] theorem State.setTool_lossMark (s : State) (n : RecNo) (r : ToolRecord) : (s.setTool n r).lossMark = s.lossMark := rfl
@[simp] theorem State.setTool_lines (s : State) (n : RecNo) (r : ToolRecord) : (s.setTool n r).lines = s.lines := rfl
@[simp] theorem State.setTool_links (s : State) (n : RecNo) (r : ToolRecord) : (s.setTool n r).links = s.links := rfl
@[simp] theorem State.setTool_records (s : State) (n : RecNo) (r : ToolRecord) :
    (s.setTool n r).records = s.records.set n r := rfl
@[simp] theorem State.setTool_recalls (s : State) (n : RecNo) (r : ToolRecord) : (s.setTool n r).recalls = s.recalls := rfl
@[simp] theorem State.setTool_capture (s : State) (n : RecNo) (r : ToolRecord) : (s.setTool n r).capture = s.capture := rfl
@[simp] theorem State.setTool_settings (s : State) (n : RecNo) (r : ToolRecord) : (s.setTool n r).settings = s.settings := rfl
@[simp] theorem State.setTool_parked (s : State) (n : RecNo) (r : ToolRecord) : (s.setTool n r).parked = s.parked := rfl
@[simp] theorem State.setTool_jobs (s : State) (n : RecNo) (r : ToolRecord) : (s.setTool n r).jobs = s.jobs := rfl
@[simp] theorem State.setTool_nextJob (s : State) (n : RecNo) (r : ToolRecord) : (s.setTool n r).nextJob = s.nextJob := rfl
@[simp] theorem State.setTool_engine (s : State) (n : RecNo) (r : ToolRecord) : (s.setTool n r).engine = s.engine := rfl
@[simp] theorem State.setTool_log (s : State) (n : RecNo) (r : ToolRecord) : (s.setTool n r).log = s.log := rfl
@[simp] theorem State.setTool_unread (s : State) (n : RecNo) (r : ToolRecord) : (s.setTool n r).unread = s.unread := rfl
@[simp] theorem State.setTool_reference (s : State) (n : RecNo) (r : ToolRecord) : (s.setTool n r).reference = s.reference := rfl
@[simp] theorem State.setTool_tickets (s : State) (n : RecNo) (r : ToolRecord) : (s.setTool n r).tickets = s.tickets := rfl
@[simp] theorem State.setTool_nextTicket (s : State) (n : RecNo) (r : ToolRecord) : (s.setTool n r).nextTicket = s.nextTicket := rfl
@[simp] theorem State.setTool_orders (s : State) (n : RecNo) (r : ToolRecord) : (s.setTool n r).orders = s.orders := rfl
@[simp] theorem State.setTool_nextOrder (s : State) (n : RecNo) (r : ToolRecord) : (s.setTool n r).nextOrder = s.nextOrder := rfl
@[simp] theorem State.setTool_handoffs (s : State) (n : RecNo) (r : ToolRecord) : (s.setTool n r).handoffs = s.handoffs := rfl
@[simp] theorem State.setTool_nextHandoff (s : State) (n : RecNo) (r : ToolRecord) : (s.setTool n r).nextHandoff = s.nextHandoff := rfl
@[simp] theorem State.setTool_hall (s : State) (n : RecNo) (r : ToolRecord) : (s.setTool n r).hall = s.hall := rfl
@[simp] theorem State.setTool_retentionLost (s : State) (n : RecNo) (r : ToolRecord) : (s.setTool n r).retentionLost = s.retentionLost := rfl

/-! ### changeTool -/

@[simp] theorem State.changeTool_pending (s : State) (n : RecNo) (f : ToolRecord → ToolRecord) : (s.changeTool n f).pending = s.pending := rfl
@[simp] theorem State.changeTool_mainUp (s : State) (n : RecNo) (f : ToolRecord → ToolRecord) : (s.changeTool n f).mainUp = s.mainUp := rfl
@[simp] theorem State.changeTool_lossMark (s : State) (n : RecNo) (f : ToolRecord → ToolRecord) : (s.changeTool n f).lossMark = s.lossMark := rfl
@[simp] theorem State.changeTool_lines (s : State) (n : RecNo) (f : ToolRecord → ToolRecord) : (s.changeTool n f).lines = s.lines := rfl
@[simp] theorem State.changeTool_links (s : State) (n : RecNo) (f : ToolRecord → ToolRecord) : (s.changeTool n f).links = s.links := rfl
@[simp] theorem State.changeTool_records (s : State) (n : RecNo) (f : ToolRecord → ToolRecord) :
    (s.changeTool n f).records = s.records.set n ((s.tool n).change (f (s.tool n))) := rfl
@[simp] theorem State.changeTool_recalls (s : State) (n : RecNo) (f : ToolRecord → ToolRecord) : (s.changeTool n f).recalls = s.recalls := rfl
@[simp] theorem State.changeTool_capture (s : State) (n : RecNo) (f : ToolRecord → ToolRecord) : (s.changeTool n f).capture = s.capture := rfl
@[simp] theorem State.changeTool_settings (s : State) (n : RecNo) (f : ToolRecord → ToolRecord) : (s.changeTool n f).settings = s.settings := rfl
@[simp] theorem State.changeTool_parked (s : State) (n : RecNo) (f : ToolRecord → ToolRecord) : (s.changeTool n f).parked = s.parked := rfl
@[simp] theorem State.changeTool_jobs (s : State) (n : RecNo) (f : ToolRecord → ToolRecord) : (s.changeTool n f).jobs = s.jobs := rfl
@[simp] theorem State.changeTool_nextJob (s : State) (n : RecNo) (f : ToolRecord → ToolRecord) : (s.changeTool n f).nextJob = s.nextJob := rfl
@[simp] theorem State.changeTool_engine (s : State) (n : RecNo) (f : ToolRecord → ToolRecord) : (s.changeTool n f).engine = s.engine := rfl
@[simp] theorem State.changeTool_log (s : State) (n : RecNo) (f : ToolRecord → ToolRecord) : (s.changeTool n f).log = s.log := rfl
@[simp] theorem State.changeTool_unread (s : State) (n : RecNo) (f : ToolRecord → ToolRecord) : (s.changeTool n f).unread = s.unread := rfl
@[simp] theorem State.changeTool_reference (s : State) (n : RecNo) (f : ToolRecord → ToolRecord) : (s.changeTool n f).reference = s.reference := rfl
@[simp] theorem State.changeTool_tickets (s : State) (n : RecNo) (f : ToolRecord → ToolRecord) : (s.changeTool n f).tickets = s.tickets := rfl
@[simp] theorem State.changeTool_nextTicket (s : State) (n : RecNo) (f : ToolRecord → ToolRecord) : (s.changeTool n f).nextTicket = s.nextTicket := rfl
@[simp] theorem State.changeTool_orders (s : State) (n : RecNo) (f : ToolRecord → ToolRecord) : (s.changeTool n f).orders = s.orders := rfl
@[simp] theorem State.changeTool_nextOrder (s : State) (n : RecNo) (f : ToolRecord → ToolRecord) : (s.changeTool n f).nextOrder = s.nextOrder := rfl
@[simp] theorem State.changeTool_handoffs (s : State) (n : RecNo) (f : ToolRecord → ToolRecord) : (s.changeTool n f).handoffs = s.handoffs := rfl
@[simp] theorem State.changeTool_nextHandoff (s : State) (n : RecNo) (f : ToolRecord → ToolRecord) : (s.changeTool n f).nextHandoff = s.nextHandoff := rfl
@[simp] theorem State.changeTool_hall (s : State) (n : RecNo) (f : ToolRecord → ToolRecord) : (s.changeTool n f).hall = s.hall := rfl
@[simp] theorem State.changeTool_retentionLost (s : State) (n : RecNo) (f : ToolRecord → ToolRecord) : (s.changeTool n f).retentionLost = s.retentionLost := rfl

/-! ### changeLink -/

@[simp] theorem State.changeLink_pending (s : State) (l : LinkId) (f : Link → Link) : (s.changeLink l f).pending = s.pending := rfl
@[simp] theorem State.changeLink_mainUp (s : State) (l : LinkId) (f : Link → Link) : (s.changeLink l f).mainUp = s.mainUp := rfl
@[simp] theorem State.changeLink_lossMark (s : State) (l : LinkId) (f : Link → Link) : (s.changeLink l f).lossMark = s.lossMark := rfl
@[simp] theorem State.changeLink_lines (s : State) (l : LinkId) (f : Link → Link) : (s.changeLink l f).lines = s.lines := rfl
@[simp] theorem State.changeLink_links (s : State) (l : LinkId) (f : Link → Link) :
    (s.changeLink l f).links = s.links.set l (f (s.link l)) := rfl
@[simp] theorem State.changeLink_records (s : State) (l : LinkId) (f : Link → Link) : (s.changeLink l f).records = s.records := rfl
@[simp] theorem State.changeLink_recalls (s : State) (l : LinkId) (f : Link → Link) : (s.changeLink l f).recalls = s.recalls := rfl
@[simp] theorem State.changeLink_capture (s : State) (l : LinkId) (f : Link → Link) : (s.changeLink l f).capture = s.capture := rfl
@[simp] theorem State.changeLink_settings (s : State) (l : LinkId) (f : Link → Link) : (s.changeLink l f).settings = s.settings := rfl
@[simp] theorem State.changeLink_parked (s : State) (l : LinkId) (f : Link → Link) : (s.changeLink l f).parked = s.parked := rfl
@[simp] theorem State.changeLink_jobs (s : State) (l : LinkId) (f : Link → Link) : (s.changeLink l f).jobs = s.jobs := rfl
@[simp] theorem State.changeLink_nextJob (s : State) (l : LinkId) (f : Link → Link) : (s.changeLink l f).nextJob = s.nextJob := rfl
@[simp] theorem State.changeLink_engine (s : State) (l : LinkId) (f : Link → Link) : (s.changeLink l f).engine = s.engine := rfl
@[simp] theorem State.changeLink_log (s : State) (l : LinkId) (f : Link → Link) : (s.changeLink l f).log = s.log := rfl
@[simp] theorem State.changeLink_unread (s : State) (l : LinkId) (f : Link → Link) : (s.changeLink l f).unread = s.unread := rfl
@[simp] theorem State.changeLink_reference (s : State) (l : LinkId) (f : Link → Link) : (s.changeLink l f).reference = s.reference := rfl
@[simp] theorem State.changeLink_tickets (s : State) (l : LinkId) (f : Link → Link) : (s.changeLink l f).tickets = s.tickets := rfl
@[simp] theorem State.changeLink_nextTicket (s : State) (l : LinkId) (f : Link → Link) : (s.changeLink l f).nextTicket = s.nextTicket := rfl
@[simp] theorem State.changeLink_orders (s : State) (l : LinkId) (f : Link → Link) : (s.changeLink l f).orders = s.orders := rfl
@[simp] theorem State.changeLink_nextOrder (s : State) (l : LinkId) (f : Link → Link) : (s.changeLink l f).nextOrder = s.nextOrder := rfl
@[simp] theorem State.changeLink_handoffs (s : State) (l : LinkId) (f : Link → Link) : (s.changeLink l f).handoffs = s.handoffs := rfl
@[simp] theorem State.changeLink_nextHandoff (s : State) (l : LinkId) (f : Link → Link) : (s.changeLink l f).nextHandoff = s.nextHandoff := rfl
@[simp] theorem State.changeLink_hall (s : State) (l : LinkId) (f : Link → Link) : (s.changeLink l f).hall = s.hall := rfl
@[simp] theorem State.changeLink_retentionLost (s : State) (l : LinkId) (f : Link → Link) : (s.changeLink l f).retentionLost = s.retentionLost := rfl

/-! ### changeJob -/

@[simp] theorem State.changeJob_pending (s : State) (n : Nat) (f : Job → Job) : (s.changeJob n f).pending = s.pending := rfl
@[simp] theorem State.changeJob_mainUp (s : State) (n : Nat) (f : Job → Job) : (s.changeJob n f).mainUp = s.mainUp := rfl
@[simp] theorem State.changeJob_lossMark (s : State) (n : Nat) (f : Job → Job) : (s.changeJob n f).lossMark = s.lossMark := rfl
@[simp] theorem State.changeJob_lines (s : State) (n : Nat) (f : Job → Job) : (s.changeJob n f).lines = s.lines := rfl
@[simp] theorem State.changeJob_links (s : State) (n : Nat) (f : Job → Job) : (s.changeJob n f).links = s.links := rfl
@[simp] theorem State.changeJob_records (s : State) (n : Nat) (f : Job → Job) : (s.changeJob n f).records = s.records := rfl
@[simp] theorem State.changeJob_recalls (s : State) (n : Nat) (f : Job → Job) : (s.changeJob n f).recalls = s.recalls := rfl
@[simp] theorem State.changeJob_capture (s : State) (n : Nat) (f : Job → Job) : (s.changeJob n f).capture = s.capture := rfl
@[simp] theorem State.changeJob_settings (s : State) (n : Nat) (f : Job → Job) : (s.changeJob n f).settings = s.settings := rfl
@[simp] theorem State.changeJob_parked (s : State) (n : Nat) (f : Job → Job) : (s.changeJob n f).parked = s.parked := rfl
@[simp] theorem State.changeJob_jobs (s : State) (n : Nat) (f : Job → Job) :
    (s.changeJob n f).jobs = s.jobs.map (fun j => if j.number == n then f j else j) := rfl
@[simp] theorem State.changeJob_nextJob (s : State) (n : Nat) (f : Job → Job) : (s.changeJob n f).nextJob = s.nextJob := rfl
@[simp] theorem State.changeJob_engine (s : State) (n : Nat) (f : Job → Job) : (s.changeJob n f).engine = s.engine := rfl
@[simp] theorem State.changeJob_log (s : State) (n : Nat) (f : Job → Job) : (s.changeJob n f).log = s.log := rfl
@[simp] theorem State.changeJob_unread (s : State) (n : Nat) (f : Job → Job) : (s.changeJob n f).unread = s.unread := rfl
@[simp] theorem State.changeJob_reference (s : State) (n : Nat) (f : Job → Job) : (s.changeJob n f).reference = s.reference := rfl
@[simp] theorem State.changeJob_tickets (s : State) (n : Nat) (f : Job → Job) : (s.changeJob n f).tickets = s.tickets := rfl
@[simp] theorem State.changeJob_nextTicket (s : State) (n : Nat) (f : Job → Job) : (s.changeJob n f).nextTicket = s.nextTicket := rfl
@[simp] theorem State.changeJob_orders (s : State) (n : Nat) (f : Job → Job) : (s.changeJob n f).orders = s.orders := rfl
@[simp] theorem State.changeJob_nextOrder (s : State) (n : Nat) (f : Job → Job) : (s.changeJob n f).nextOrder = s.nextOrder := rfl
@[simp] theorem State.changeJob_handoffs (s : State) (n : Nat) (f : Job → Job) : (s.changeJob n f).handoffs = s.handoffs := rfl
@[simp] theorem State.changeJob_nextHandoff (s : State) (n : Nat) (f : Job → Job) : (s.changeJob n f).nextHandoff = s.nextHandoff := rfl
@[simp] theorem State.changeJob_hall (s : State) (n : Nat) (f : Job → Job) : (s.changeJob n f).hall = s.hall := rfl
@[simp] theorem State.changeJob_retentionLost (s : State) (n : Nat) (f : Job → Job) : (s.changeJob n f).retentionLost = s.retentionLost := rfl

/-! ### withoutJob -/

@[simp] theorem State.withoutJob_pending (s : State) (n : Nat) : (s.withoutJob n).pending = s.pending := rfl
@[simp] theorem State.withoutJob_mainUp (s : State) (n : Nat) : (s.withoutJob n).mainUp = s.mainUp := rfl
@[simp] theorem State.withoutJob_lossMark (s : State) (n : Nat) : (s.withoutJob n).lossMark = s.lossMark := rfl
@[simp] theorem State.withoutJob_lines (s : State) (n : Nat) : (s.withoutJob n).lines = s.lines := rfl
@[simp] theorem State.withoutJob_links (s : State) (n : Nat) : (s.withoutJob n).links = s.links := rfl
@[simp] theorem State.withoutJob_records (s : State) (n : Nat) : (s.withoutJob n).records = s.records := rfl
@[simp] theorem State.withoutJob_recalls (s : State) (n : Nat) : (s.withoutJob n).recalls = s.recalls := rfl
@[simp] theorem State.withoutJob_capture (s : State) (n : Nat) : (s.withoutJob n).capture = s.capture := rfl
@[simp] theorem State.withoutJob_settings (s : State) (n : Nat) : (s.withoutJob n).settings = s.settings := rfl
@[simp] theorem State.withoutJob_parked (s : State) (n : Nat) : (s.withoutJob n).parked = s.parked := rfl
@[simp] theorem State.withoutJob_jobs (s : State) (n : Nat) :
    (s.withoutJob n).jobs = s.jobs.filter (fun j => j.number != n) := rfl
@[simp] theorem State.withoutJob_nextJob (s : State) (n : Nat) : (s.withoutJob n).nextJob = s.nextJob := rfl
@[simp] theorem State.withoutJob_engine (s : State) (n : Nat) : (s.withoutJob n).engine = s.engine := rfl
@[simp] theorem State.withoutJob_log (s : State) (n : Nat) : (s.withoutJob n).log = s.log := rfl
@[simp] theorem State.withoutJob_unread (s : State) (n : Nat) : (s.withoutJob n).unread = s.unread := rfl
@[simp] theorem State.withoutJob_reference (s : State) (n : Nat) : (s.withoutJob n).reference = s.reference := rfl
@[simp] theorem State.withoutJob_tickets (s : State) (n : Nat) : (s.withoutJob n).tickets = s.tickets := rfl
@[simp] theorem State.withoutJob_nextTicket (s : State) (n : Nat) : (s.withoutJob n).nextTicket = s.nextTicket := rfl
@[simp] theorem State.withoutJob_orders (s : State) (n : Nat) : (s.withoutJob n).orders = s.orders := rfl
@[simp] theorem State.withoutJob_nextOrder (s : State) (n : Nat) : (s.withoutJob n).nextOrder = s.nextOrder := rfl
@[simp] theorem State.withoutJob_handoffs (s : State) (n : Nat) : (s.withoutJob n).handoffs = s.handoffs := rfl
@[simp] theorem State.withoutJob_nextHandoff (s : State) (n : Nat) : (s.withoutJob n).nextHandoff = s.nextHandoff := rfl
@[simp] theorem State.withoutJob_hall (s : State) (n : Nat) : (s.withoutJob n).hall = s.hall := rfl
@[simp] theorem State.withoutJob_retentionLost (s : State) (n : Nat) : (s.withoutJob n).retentionLost = s.retentionLost := rfl

/-! ### changeTicket -/

@[simp] theorem State.changeTicket_pending (s : State) (n : Nat) (f : Ticket → Ticket) : (s.changeTicket n f).pending = s.pending := rfl
@[simp] theorem State.changeTicket_mainUp (s : State) (n : Nat) (f : Ticket → Ticket) : (s.changeTicket n f).mainUp = s.mainUp := rfl
@[simp] theorem State.changeTicket_lossMark (s : State) (n : Nat) (f : Ticket → Ticket) : (s.changeTicket n f).lossMark = s.lossMark := rfl
@[simp] theorem State.changeTicket_lines (s : State) (n : Nat) (f : Ticket → Ticket) : (s.changeTicket n f).lines = s.lines := rfl
@[simp] theorem State.changeTicket_links (s : State) (n : Nat) (f : Ticket → Ticket) : (s.changeTicket n f).links = s.links := rfl
@[simp] theorem State.changeTicket_records (s : State) (n : Nat) (f : Ticket → Ticket) : (s.changeTicket n f).records = s.records := rfl
@[simp] theorem State.changeTicket_recalls (s : State) (n : Nat) (f : Ticket → Ticket) : (s.changeTicket n f).recalls = s.recalls := rfl
@[simp] theorem State.changeTicket_capture (s : State) (n : Nat) (f : Ticket → Ticket) : (s.changeTicket n f).capture = s.capture := rfl
@[simp] theorem State.changeTicket_settings (s : State) (n : Nat) (f : Ticket → Ticket) : (s.changeTicket n f).settings = s.settings := rfl
@[simp] theorem State.changeTicket_parked (s : State) (n : Nat) (f : Ticket → Ticket) : (s.changeTicket n f).parked = s.parked := rfl
@[simp] theorem State.changeTicket_jobs (s : State) (n : Nat) (f : Ticket → Ticket) : (s.changeTicket n f).jobs = s.jobs := rfl
@[simp] theorem State.changeTicket_nextJob (s : State) (n : Nat) (f : Ticket → Ticket) : (s.changeTicket n f).nextJob = s.nextJob := rfl
@[simp] theorem State.changeTicket_engine (s : State) (n : Nat) (f : Ticket → Ticket) : (s.changeTicket n f).engine = s.engine := rfl
@[simp] theorem State.changeTicket_log (s : State) (n : Nat) (f : Ticket → Ticket) : (s.changeTicket n f).log = s.log := rfl
@[simp] theorem State.changeTicket_unread (s : State) (n : Nat) (f : Ticket → Ticket) : (s.changeTicket n f).unread = s.unread := rfl
@[simp] theorem State.changeTicket_reference (s : State) (n : Nat) (f : Ticket → Ticket) : (s.changeTicket n f).reference = s.reference := rfl
@[simp] theorem State.changeTicket_tickets (s : State) (n : Nat) (f : Ticket → Ticket) :
    (s.changeTicket n f).tickets = s.tickets.map (fun t => if t.number == n then f t else t) := rfl
@[simp] theorem State.changeTicket_nextTicket (s : State) (n : Nat) (f : Ticket → Ticket) : (s.changeTicket n f).nextTicket = s.nextTicket := rfl
@[simp] theorem State.changeTicket_orders (s : State) (n : Nat) (f : Ticket → Ticket) : (s.changeTicket n f).orders = s.orders := rfl
@[simp] theorem State.changeTicket_nextOrder (s : State) (n : Nat) (f : Ticket → Ticket) : (s.changeTicket n f).nextOrder = s.nextOrder := rfl
@[simp] theorem State.changeTicket_handoffs (s : State) (n : Nat) (f : Ticket → Ticket) : (s.changeTicket n f).handoffs = s.handoffs := rfl
@[simp] theorem State.changeTicket_nextHandoff (s : State) (n : Nat) (f : Ticket → Ticket) : (s.changeTicket n f).nextHandoff = s.nextHandoff := rfl
@[simp] theorem State.changeTicket_hall (s : State) (n : Nat) (f : Ticket → Ticket) : (s.changeTicket n f).hall = s.hall := rfl
@[simp] theorem State.changeTicket_retentionLost (s : State) (n : Nat) (f : Ticket → Ticket) : (s.changeTicket n f).retentionLost = s.retentionLost := rfl

/-! ### withoutTicket -/

@[simp] theorem State.withoutTicket_pending (s : State) (n : Nat) : (s.withoutTicket n).pending = s.pending := rfl
@[simp] theorem State.withoutTicket_mainUp (s : State) (n : Nat) : (s.withoutTicket n).mainUp = s.mainUp := rfl
@[simp] theorem State.withoutTicket_lossMark (s : State) (n : Nat) : (s.withoutTicket n).lossMark = s.lossMark := rfl
@[simp] theorem State.withoutTicket_lines (s : State) (n : Nat) : (s.withoutTicket n).lines = s.lines := rfl
@[simp] theorem State.withoutTicket_links (s : State) (n : Nat) : (s.withoutTicket n).links = s.links := rfl
@[simp] theorem State.withoutTicket_records (s : State) (n : Nat) : (s.withoutTicket n).records = s.records := rfl
@[simp] theorem State.withoutTicket_recalls (s : State) (n : Nat) : (s.withoutTicket n).recalls = s.recalls := rfl
@[simp] theorem State.withoutTicket_capture (s : State) (n : Nat) : (s.withoutTicket n).capture = s.capture := rfl
@[simp] theorem State.withoutTicket_settings (s : State) (n : Nat) : (s.withoutTicket n).settings = s.settings := rfl
@[simp] theorem State.withoutTicket_parked (s : State) (n : Nat) : (s.withoutTicket n).parked = s.parked := rfl
@[simp] theorem State.withoutTicket_jobs (s : State) (n : Nat) : (s.withoutTicket n).jobs = s.jobs := rfl
@[simp] theorem State.withoutTicket_nextJob (s : State) (n : Nat) : (s.withoutTicket n).nextJob = s.nextJob := rfl
@[simp] theorem State.withoutTicket_engine (s : State) (n : Nat) : (s.withoutTicket n).engine = s.engine := rfl
@[simp] theorem State.withoutTicket_log (s : State) (n : Nat) : (s.withoutTicket n).log = s.log := rfl
@[simp] theorem State.withoutTicket_unread (s : State) (n : Nat) : (s.withoutTicket n).unread = s.unread := rfl
@[simp] theorem State.withoutTicket_reference (s : State) (n : Nat) : (s.withoutTicket n).reference = s.reference := rfl
@[simp] theorem State.withoutTicket_tickets (s : State) (n : Nat) :
    (s.withoutTicket n).tickets = s.tickets.filter (fun t => t.number != n) := rfl
@[simp] theorem State.withoutTicket_nextTicket (s : State) (n : Nat) : (s.withoutTicket n).nextTicket = s.nextTicket := rfl
@[simp] theorem State.withoutTicket_orders (s : State) (n : Nat) : (s.withoutTicket n).orders = s.orders := rfl
@[simp] theorem State.withoutTicket_nextOrder (s : State) (n : Nat) : (s.withoutTicket n).nextOrder = s.nextOrder := rfl
@[simp] theorem State.withoutTicket_handoffs (s : State) (n : Nat) : (s.withoutTicket n).handoffs = s.handoffs := rfl
@[simp] theorem State.withoutTicket_nextHandoff (s : State) (n : Nat) : (s.withoutTicket n).nextHandoff = s.nextHandoff := rfl
@[simp] theorem State.withoutTicket_hall (s : State) (n : Nat) : (s.withoutTicket n).hall = s.hall := rfl
@[simp] theorem State.withoutTicket_retentionLost (s : State) (n : Nat) : (s.withoutTicket n).retentionLost = s.retentionLost := rfl

/-! ### withoutOrder -/

@[simp] theorem State.withoutOrder_pending (s : State) (n : Nat) : (s.withoutOrder n).pending = s.pending := rfl
@[simp] theorem State.withoutOrder_mainUp (s : State) (n : Nat) : (s.withoutOrder n).mainUp = s.mainUp := rfl
@[simp] theorem State.withoutOrder_lossMark (s : State) (n : Nat) : (s.withoutOrder n).lossMark = s.lossMark := rfl
@[simp] theorem State.withoutOrder_lines (s : State) (n : Nat) : (s.withoutOrder n).lines = s.lines := rfl
@[simp] theorem State.withoutOrder_links (s : State) (n : Nat) : (s.withoutOrder n).links = s.links := rfl
@[simp] theorem State.withoutOrder_records (s : State) (n : Nat) : (s.withoutOrder n).records = s.records := rfl
@[simp] theorem State.withoutOrder_recalls (s : State) (n : Nat) : (s.withoutOrder n).recalls = s.recalls := rfl
@[simp] theorem State.withoutOrder_capture (s : State) (n : Nat) : (s.withoutOrder n).capture = s.capture := rfl
@[simp] theorem State.withoutOrder_settings (s : State) (n : Nat) : (s.withoutOrder n).settings = s.settings := rfl
@[simp] theorem State.withoutOrder_parked (s : State) (n : Nat) : (s.withoutOrder n).parked = s.parked := rfl
@[simp] theorem State.withoutOrder_jobs (s : State) (n : Nat) : (s.withoutOrder n).jobs = s.jobs := rfl
@[simp] theorem State.withoutOrder_nextJob (s : State) (n : Nat) : (s.withoutOrder n).nextJob = s.nextJob := rfl
@[simp] theorem State.withoutOrder_engine (s : State) (n : Nat) : (s.withoutOrder n).engine = s.engine := rfl
@[simp] theorem State.withoutOrder_log (s : State) (n : Nat) : (s.withoutOrder n).log = s.log := rfl
@[simp] theorem State.withoutOrder_unread (s : State) (n : Nat) : (s.withoutOrder n).unread = s.unread := rfl
@[simp] theorem State.withoutOrder_reference (s : State) (n : Nat) : (s.withoutOrder n).reference = s.reference := rfl
@[simp] theorem State.withoutOrder_tickets (s : State) (n : Nat) : (s.withoutOrder n).tickets = s.tickets := rfl
@[simp] theorem State.withoutOrder_nextTicket (s : State) (n : Nat) : (s.withoutOrder n).nextTicket = s.nextTicket := rfl
@[simp] theorem State.withoutOrder_orders (s : State) (n : Nat) :
    (s.withoutOrder n).orders = s.orders.filter (fun o => o.number != n) := rfl
@[simp] theorem State.withoutOrder_nextOrder (s : State) (n : Nat) : (s.withoutOrder n).nextOrder = s.nextOrder := rfl
@[simp] theorem State.withoutOrder_handoffs (s : State) (n : Nat) : (s.withoutOrder n).handoffs = s.handoffs := rfl
@[simp] theorem State.withoutOrder_nextHandoff (s : State) (n : Nat) : (s.withoutOrder n).nextHandoff = s.nextHandoff := rfl
@[simp] theorem State.withoutOrder_hall (s : State) (n : Nat) : (s.withoutOrder n).hall = s.hall := rfl
@[simp] theorem State.withoutOrder_retentionLost (s : State) (n : Nat) : (s.withoutOrder n).retentionLost = s.retentionLost := rfl

/-! ### changeOrder -/

@[simp] theorem State.changeOrder_pending (s : State) (n : Nat) (f : Order → Order) : (s.changeOrder n f).pending = s.pending := rfl
@[simp] theorem State.changeOrder_mainUp (s : State) (n : Nat) (f : Order → Order) : (s.changeOrder n f).mainUp = s.mainUp := rfl
@[simp] theorem State.changeOrder_lossMark (s : State) (n : Nat) (f : Order → Order) : (s.changeOrder n f).lossMark = s.lossMark := rfl
@[simp] theorem State.changeOrder_lines (s : State) (n : Nat) (f : Order → Order) : (s.changeOrder n f).lines = s.lines := rfl
@[simp] theorem State.changeOrder_links (s : State) (n : Nat) (f : Order → Order) : (s.changeOrder n f).links = s.links := rfl
@[simp] theorem State.changeOrder_records (s : State) (n : Nat) (f : Order → Order) : (s.changeOrder n f).records = s.records := rfl
@[simp] theorem State.changeOrder_recalls (s : State) (n : Nat) (f : Order → Order) : (s.changeOrder n f).recalls = s.recalls := rfl
@[simp] theorem State.changeOrder_capture (s : State) (n : Nat) (f : Order → Order) : (s.changeOrder n f).capture = s.capture := rfl
@[simp] theorem State.changeOrder_settings (s : State) (n : Nat) (f : Order → Order) : (s.changeOrder n f).settings = s.settings := rfl
@[simp] theorem State.changeOrder_parked (s : State) (n : Nat) (f : Order → Order) : (s.changeOrder n f).parked = s.parked := rfl
@[simp] theorem State.changeOrder_jobs (s : State) (n : Nat) (f : Order → Order) : (s.changeOrder n f).jobs = s.jobs := rfl
@[simp] theorem State.changeOrder_nextJob (s : State) (n : Nat) (f : Order → Order) : (s.changeOrder n f).nextJob = s.nextJob := rfl
@[simp] theorem State.changeOrder_engine (s : State) (n : Nat) (f : Order → Order) : (s.changeOrder n f).engine = s.engine := rfl
@[simp] theorem State.changeOrder_log (s : State) (n : Nat) (f : Order → Order) : (s.changeOrder n f).log = s.log := rfl
@[simp] theorem State.changeOrder_unread (s : State) (n : Nat) (f : Order → Order) : (s.changeOrder n f).unread = s.unread := rfl
@[simp] theorem State.changeOrder_reference (s : State) (n : Nat) (f : Order → Order) : (s.changeOrder n f).reference = s.reference := rfl
@[simp] theorem State.changeOrder_tickets (s : State) (n : Nat) (f : Order → Order) : (s.changeOrder n f).tickets = s.tickets := rfl
@[simp] theorem State.changeOrder_nextTicket (s : State) (n : Nat) (f : Order → Order) : (s.changeOrder n f).nextTicket = s.nextTicket := rfl
@[simp] theorem State.changeOrder_orders (s : State) (n : Nat) (f : Order → Order) :
    (s.changeOrder n f).orders = s.orders.map (fun o => if o.number == n then f o else o) := rfl
@[simp] theorem State.changeOrder_nextOrder (s : State) (n : Nat) (f : Order → Order) : (s.changeOrder n f).nextOrder = s.nextOrder := rfl
@[simp] theorem State.changeOrder_handoffs (s : State) (n : Nat) (f : Order → Order) : (s.changeOrder n f).handoffs = s.handoffs := rfl
@[simp] theorem State.changeOrder_nextHandoff (s : State) (n : Nat) (f : Order → Order) : (s.changeOrder n f).nextHandoff = s.nextHandoff := rfl
@[simp] theorem State.changeOrder_hall (s : State) (n : Nat) (f : Order → Order) : (s.changeOrder n f).hall = s.hall := rfl
@[simp] theorem State.changeOrder_retentionLost (s : State) (n : Nat) (f : Order → Order) : (s.changeOrder n f).retentionLost = s.retentionLost := rfl

/-! ### withoutHandoff -/

@[simp] theorem State.withoutHandoff_pending (s : State) (n : Nat) : (s.withoutHandoff n).pending = s.pending := rfl
@[simp] theorem State.withoutHandoff_mainUp (s : State) (n : Nat) : (s.withoutHandoff n).mainUp = s.mainUp := rfl
@[simp] theorem State.withoutHandoff_lossMark (s : State) (n : Nat) : (s.withoutHandoff n).lossMark = s.lossMark := rfl
@[simp] theorem State.withoutHandoff_lines (s : State) (n : Nat) : (s.withoutHandoff n).lines = s.lines := rfl
@[simp] theorem State.withoutHandoff_links (s : State) (n : Nat) : (s.withoutHandoff n).links = s.links := rfl
@[simp] theorem State.withoutHandoff_records (s : State) (n : Nat) : (s.withoutHandoff n).records = s.records := rfl
@[simp] theorem State.withoutHandoff_recalls (s : State) (n : Nat) : (s.withoutHandoff n).recalls = s.recalls := rfl
@[simp] theorem State.withoutHandoff_capture (s : State) (n : Nat) : (s.withoutHandoff n).capture = s.capture := rfl
@[simp] theorem State.withoutHandoff_settings (s : State) (n : Nat) : (s.withoutHandoff n).settings = s.settings := rfl
@[simp] theorem State.withoutHandoff_parked (s : State) (n : Nat) : (s.withoutHandoff n).parked = s.parked := rfl
@[simp] theorem State.withoutHandoff_jobs (s : State) (n : Nat) : (s.withoutHandoff n).jobs = s.jobs := rfl
@[simp] theorem State.withoutHandoff_nextJob (s : State) (n : Nat) : (s.withoutHandoff n).nextJob = s.nextJob := rfl
@[simp] theorem State.withoutHandoff_engine (s : State) (n : Nat) : (s.withoutHandoff n).engine = s.engine := rfl
@[simp] theorem State.withoutHandoff_log (s : State) (n : Nat) : (s.withoutHandoff n).log = s.log := rfl
@[simp] theorem State.withoutHandoff_unread (s : State) (n : Nat) : (s.withoutHandoff n).unread = s.unread := rfl
@[simp] theorem State.withoutHandoff_reference (s : State) (n : Nat) : (s.withoutHandoff n).reference = s.reference := rfl
@[simp] theorem State.withoutHandoff_tickets (s : State) (n : Nat) : (s.withoutHandoff n).tickets = s.tickets := rfl
@[simp] theorem State.withoutHandoff_nextTicket (s : State) (n : Nat) : (s.withoutHandoff n).nextTicket = s.nextTicket := rfl
@[simp] theorem State.withoutHandoff_orders (s : State) (n : Nat) : (s.withoutHandoff n).orders = s.orders := rfl
@[simp] theorem State.withoutHandoff_nextOrder (s : State) (n : Nat) : (s.withoutHandoff n).nextOrder = s.nextOrder := rfl
@[simp] theorem State.withoutHandoff_handoffs (s : State) (n : Nat) :
    (s.withoutHandoff n).handoffs = s.handoffs.filter (fun h => h.number != n) := rfl
@[simp] theorem State.withoutHandoff_nextHandoff (s : State) (n : Nat) : (s.withoutHandoff n).nextHandoff = s.nextHandoff := rfl
@[simp] theorem State.withoutHandoff_hall (s : State) (n : Nat) : (s.withoutHandoff n).hall = s.hall := rfl
@[simp] theorem State.withoutHandoff_retentionLost (s : State) (n : Nat) : (s.withoutHandoff n).retentionLost = s.retentionLost := rfl

/-! ### changeHandoff -/

@[simp] theorem State.changeHandoff_pending (s : State) (n : Nat) (f : Handoff → Handoff) : (s.changeHandoff n f).pending = s.pending := rfl
@[simp] theorem State.changeHandoff_mainUp (s : State) (n : Nat) (f : Handoff → Handoff) : (s.changeHandoff n f).mainUp = s.mainUp := rfl
@[simp] theorem State.changeHandoff_lossMark (s : State) (n : Nat) (f : Handoff → Handoff) : (s.changeHandoff n f).lossMark = s.lossMark := rfl
@[simp] theorem State.changeHandoff_lines (s : State) (n : Nat) (f : Handoff → Handoff) : (s.changeHandoff n f).lines = s.lines := rfl
@[simp] theorem State.changeHandoff_links (s : State) (n : Nat) (f : Handoff → Handoff) : (s.changeHandoff n f).links = s.links := rfl
@[simp] theorem State.changeHandoff_records (s : State) (n : Nat) (f : Handoff → Handoff) : (s.changeHandoff n f).records = s.records := rfl
@[simp] theorem State.changeHandoff_recalls (s : State) (n : Nat) (f : Handoff → Handoff) : (s.changeHandoff n f).recalls = s.recalls := rfl
@[simp] theorem State.changeHandoff_capture (s : State) (n : Nat) (f : Handoff → Handoff) : (s.changeHandoff n f).capture = s.capture := rfl
@[simp] theorem State.changeHandoff_settings (s : State) (n : Nat) (f : Handoff → Handoff) : (s.changeHandoff n f).settings = s.settings := rfl
@[simp] theorem State.changeHandoff_parked (s : State) (n : Nat) (f : Handoff → Handoff) : (s.changeHandoff n f).parked = s.parked := rfl
@[simp] theorem State.changeHandoff_jobs (s : State) (n : Nat) (f : Handoff → Handoff) : (s.changeHandoff n f).jobs = s.jobs := rfl
@[simp] theorem State.changeHandoff_nextJob (s : State) (n : Nat) (f : Handoff → Handoff) : (s.changeHandoff n f).nextJob = s.nextJob := rfl
@[simp] theorem State.changeHandoff_engine (s : State) (n : Nat) (f : Handoff → Handoff) : (s.changeHandoff n f).engine = s.engine := rfl
@[simp] theorem State.changeHandoff_log (s : State) (n : Nat) (f : Handoff → Handoff) : (s.changeHandoff n f).log = s.log := rfl
@[simp] theorem State.changeHandoff_unread (s : State) (n : Nat) (f : Handoff → Handoff) : (s.changeHandoff n f).unread = s.unread := rfl
@[simp] theorem State.changeHandoff_reference (s : State) (n : Nat) (f : Handoff → Handoff) : (s.changeHandoff n f).reference = s.reference := rfl
@[simp] theorem State.changeHandoff_tickets (s : State) (n : Nat) (f : Handoff → Handoff) : (s.changeHandoff n f).tickets = s.tickets := rfl
@[simp] theorem State.changeHandoff_nextTicket (s : State) (n : Nat) (f : Handoff → Handoff) : (s.changeHandoff n f).nextTicket = s.nextTicket := rfl
@[simp] theorem State.changeHandoff_orders (s : State) (n : Nat) (f : Handoff → Handoff) : (s.changeHandoff n f).orders = s.orders := rfl
@[simp] theorem State.changeHandoff_nextOrder (s : State) (n : Nat) (f : Handoff → Handoff) : (s.changeHandoff n f).nextOrder = s.nextOrder := rfl
@[simp] theorem State.changeHandoff_handoffs (s : State) (n : Nat) (f : Handoff → Handoff) :
    (s.changeHandoff n f).handoffs = s.handoffs.map (fun h => if h.number == n then f h else h) := rfl
@[simp] theorem State.changeHandoff_nextHandoff (s : State) (n : Nat) (f : Handoff → Handoff) : (s.changeHandoff n f).nextHandoff = s.nextHandoff := rfl
@[simp] theorem State.changeHandoff_hall (s : State) (n : Nat) (f : Handoff → Handoff) : (s.changeHandoff n f).hall = s.hall := rfl
@[simp] theorem State.changeHandoff_retentionLost (s : State) (n : Nat) (f : Handoff → Handoff) : (s.changeHandoff n f).retentionLost = s.retentionLost := rfl

/-! ### received -/

@[simp] theorem State.received_pending (s : State) (l : LinkId) : (s.received l).pending = s.pending := rfl
@[simp] theorem State.received_mainUp (s : State) (l : LinkId) : (s.received l).mainUp = s.mainUp := rfl
@[simp] theorem State.received_lossMark (s : State) (l : LinkId) : (s.received l).lossMark = s.lossMark := rfl
@[simp] theorem State.received_lines (s : State) (l : LinkId) : (s.received l).lines = s.lines := rfl
@[simp] theorem State.received_links (s : State) (l : LinkId) :
    (s.received l).links = s.links.set l ({ s.link l with receiver := .hunting, spaceChars := 0 }) := rfl
@[simp] theorem State.received_records (s : State) (l : LinkId) : (s.received l).records = s.records := rfl
@[simp] theorem State.received_recalls (s : State) (l : LinkId) : (s.received l).recalls = s.recalls := rfl
@[simp] theorem State.received_capture (s : State) (l : LinkId) : (s.received l).capture = s.capture := rfl
@[simp] theorem State.received_settings (s : State) (l : LinkId) : (s.received l).settings = s.settings := rfl
@[simp] theorem State.received_parked (s : State) (l : LinkId) : (s.received l).parked = s.parked := rfl
@[simp] theorem State.received_jobs (s : State) (l : LinkId) : (s.received l).jobs = s.jobs := rfl
@[simp] theorem State.received_nextJob (s : State) (l : LinkId) : (s.received l).nextJob = s.nextJob := rfl
@[simp] theorem State.received_engine (s : State) (l : LinkId) : (s.received l).engine = s.engine := rfl
@[simp] theorem State.received_log (s : State) (l : LinkId) : (s.received l).log = s.log := rfl
@[simp] theorem State.received_unread (s : State) (l : LinkId) : (s.received l).unread = s.unread := rfl
@[simp] theorem State.received_reference (s : State) (l : LinkId) : (s.received l).reference = s.reference := rfl
@[simp] theorem State.received_tickets (s : State) (l : LinkId) : (s.received l).tickets = s.tickets := rfl
@[simp] theorem State.received_nextTicket (s : State) (l : LinkId) : (s.received l).nextTicket = s.nextTicket := rfl
@[simp] theorem State.received_orders (s : State) (l : LinkId) : (s.received l).orders = s.orders := rfl
@[simp] theorem State.received_nextOrder (s : State) (l : LinkId) : (s.received l).nextOrder = s.nextOrder := rfl
@[simp] theorem State.received_handoffs (s : State) (l : LinkId) : (s.received l).handoffs = s.handoffs := rfl
@[simp] theorem State.received_nextHandoff (s : State) (l : LinkId) : (s.received l).nextHandoff = s.nextHandoff := rfl
@[simp] theorem State.received_hall (s : State) (l : LinkId) : (s.received l).hall = s.hall := rfl
@[simp] theorem State.received_retentionLost (s : State) (l : LinkId) : (s.received l).retentionLost = s.retentionLost := rfl

/-! ### setReceiver -/

@[simp] theorem State.setReceiver_pending (s : State) (l : LinkId) (r : Receiver) : (s.setReceiver l r).pending = s.pending := rfl
@[simp] theorem State.setReceiver_mainUp (s : State) (l : LinkId) (r : Receiver) : (s.setReceiver l r).mainUp = s.mainUp := rfl
@[simp] theorem State.setReceiver_lossMark (s : State) (l : LinkId) (r : Receiver) : (s.setReceiver l r).lossMark = s.lossMark := rfl
@[simp] theorem State.setReceiver_lines (s : State) (l : LinkId) (r : Receiver) : (s.setReceiver l r).lines = s.lines := rfl
@[simp] theorem State.setReceiver_links (s : State) (l : LinkId) (r : Receiver) :
    (s.setReceiver l r).links = s.links.set l ({ s.link l with receiver := r, spaceChars := 0 }) := rfl
@[simp] theorem State.setReceiver_records (s : State) (l : LinkId) (r : Receiver) : (s.setReceiver l r).records = s.records := rfl
@[simp] theorem State.setReceiver_recalls (s : State) (l : LinkId) (r : Receiver) : (s.setReceiver l r).recalls = s.recalls := rfl
@[simp] theorem State.setReceiver_capture (s : State) (l : LinkId) (r : Receiver) : (s.setReceiver l r).capture = s.capture := rfl
@[simp] theorem State.setReceiver_settings (s : State) (l : LinkId) (r : Receiver) : (s.setReceiver l r).settings = s.settings := rfl
@[simp] theorem State.setReceiver_parked (s : State) (l : LinkId) (r : Receiver) : (s.setReceiver l r).parked = s.parked := rfl
@[simp] theorem State.setReceiver_jobs (s : State) (l : LinkId) (r : Receiver) : (s.setReceiver l r).jobs = s.jobs := rfl
@[simp] theorem State.setReceiver_nextJob (s : State) (l : LinkId) (r : Receiver) : (s.setReceiver l r).nextJob = s.nextJob := rfl
@[simp] theorem State.setReceiver_engine (s : State) (l : LinkId) (r : Receiver) : (s.setReceiver l r).engine = s.engine := rfl
@[simp] theorem State.setReceiver_log (s : State) (l : LinkId) (r : Receiver) : (s.setReceiver l r).log = s.log := rfl
@[simp] theorem State.setReceiver_unread (s : State) (l : LinkId) (r : Receiver) : (s.setReceiver l r).unread = s.unread := rfl
@[simp] theorem State.setReceiver_reference (s : State) (l : LinkId) (r : Receiver) : (s.setReceiver l r).reference = s.reference := rfl
@[simp] theorem State.setReceiver_tickets (s : State) (l : LinkId) (r : Receiver) : (s.setReceiver l r).tickets = s.tickets := rfl
@[simp] theorem State.setReceiver_nextTicket (s : State) (l : LinkId) (r : Receiver) : (s.setReceiver l r).nextTicket = s.nextTicket := rfl
@[simp] theorem State.setReceiver_orders (s : State) (l : LinkId) (r : Receiver) : (s.setReceiver l r).orders = s.orders := rfl
@[simp] theorem State.setReceiver_nextOrder (s : State) (l : LinkId) (r : Receiver) : (s.setReceiver l r).nextOrder = s.nextOrder := rfl
@[simp] theorem State.setReceiver_handoffs (s : State) (l : LinkId) (r : Receiver) : (s.setReceiver l r).handoffs = s.handoffs := rfl
@[simp] theorem State.setReceiver_nextHandoff (s : State) (l : LinkId) (r : Receiver) : (s.setReceiver l r).nextHandoff = s.nextHandoff := rfl
@[simp] theorem State.setReceiver_hall (s : State) (l : LinkId) (r : Receiver) : (s.setReceiver l r).hall = s.hall := rfl
@[simp] theorem State.setReceiver_retentionLost (s : State) (l : LinkId) (r : Receiver) : (s.setReceiver l r).retentionLost = s.retentionLost := rfl

/-! ### setQualifier -/

@[simp] theorem State.setQualifier_pending (s : State) (q : Qualifier) : (s.setQualifier q).pending = s.pending := rfl
@[simp] theorem State.setQualifier_mainUp (s : State) (q : Qualifier) : (s.setQualifier q).mainUp = s.mainUp := rfl
@[simp] theorem State.setQualifier_lossMark (s : State) (q : Qualifier) : (s.setQualifier q).lossMark = s.lossMark := rfl
@[simp] theorem State.setQualifier_lines (s : State) (q : Qualifier) : (s.setQualifier q).lines = s.lines := rfl
@[simp] theorem State.setQualifier_links (s : State) (q : Qualifier) : (s.setQualifier q).links = s.links := rfl
@[simp] theorem State.setQualifier_records (s : State) (q : Qualifier) : (s.setQualifier q).records = s.records := rfl
@[simp] theorem State.setQualifier_recalls (s : State) (q : Qualifier) : (s.setQualifier q).recalls = s.recalls := rfl
@[simp] theorem State.setQualifier_capture (s : State) (q : Qualifier) :
    (s.setQualifier q).capture = { s.capture with qualifier := q } := rfl
@[simp] theorem State.setQualifier_settings (s : State) (q : Qualifier) : (s.setQualifier q).settings = s.settings := rfl
@[simp] theorem State.setQualifier_parked (s : State) (q : Qualifier) : (s.setQualifier q).parked = s.parked := rfl
@[simp] theorem State.setQualifier_jobs (s : State) (q : Qualifier) : (s.setQualifier q).jobs = s.jobs := rfl
@[simp] theorem State.setQualifier_nextJob (s : State) (q : Qualifier) : (s.setQualifier q).nextJob = s.nextJob := rfl
@[simp] theorem State.setQualifier_engine (s : State) (q : Qualifier) : (s.setQualifier q).engine = s.engine := rfl
@[simp] theorem State.setQualifier_log (s : State) (q : Qualifier) : (s.setQualifier q).log = s.log := rfl
@[simp] theorem State.setQualifier_unread (s : State) (q : Qualifier) : (s.setQualifier q).unread = s.unread := rfl
@[simp] theorem State.setQualifier_reference (s : State) (q : Qualifier) : (s.setQualifier q).reference = s.reference := rfl
@[simp] theorem State.setQualifier_tickets (s : State) (q : Qualifier) : (s.setQualifier q).tickets = s.tickets := rfl
@[simp] theorem State.setQualifier_nextTicket (s : State) (q : Qualifier) : (s.setQualifier q).nextTicket = s.nextTicket := rfl
@[simp] theorem State.setQualifier_orders (s : State) (q : Qualifier) : (s.setQualifier q).orders = s.orders := rfl
@[simp] theorem State.setQualifier_nextOrder (s : State) (q : Qualifier) : (s.setQualifier q).nextOrder = s.nextOrder := rfl
@[simp] theorem State.setQualifier_handoffs (s : State) (q : Qualifier) : (s.setQualifier q).handoffs = s.handoffs := rfl
@[simp] theorem State.setQualifier_nextHandoff (s : State) (q : Qualifier) : (s.setQualifier q).nextHandoff = s.nextHandoff := rfl
@[simp] theorem State.setQualifier_hall (s : State) (q : Qualifier) : (s.setQualifier q).hall = s.hall := rfl
@[simp] theorem State.setQualifier_retentionLost (s : State) (q : Qualifier) : (s.setQualifier q).retentionLost = s.retentionLost := rfl

/-! ### requalify -/

@[simp] theorem State.requalify_pending (s : State) : s.requalify.pending = s.pending := rfl
@[simp] theorem State.requalify_mainUp (s : State) : s.requalify.mainUp = s.mainUp := rfl
@[simp] theorem State.requalify_lossMark (s : State) : s.requalify.lossMark = s.lossMark := rfl
@[simp] theorem State.requalify_lines (s : State) : s.requalify.lines = s.lines := rfl
@[simp] theorem State.requalify_links (s : State) : s.requalify.links = s.links := rfl
@[simp] theorem State.requalify_records (s : State) : s.requalify.records = s.records := rfl
@[simp] theorem State.requalify_recalls (s : State) : s.requalify.recalls = s.recalls := rfl
@[simp] theorem State.requalify_settings (s : State) : s.requalify.settings = s.settings := rfl
@[simp] theorem State.requalify_parked (s : State) : s.requalify.parked = s.parked := rfl
@[simp] theorem State.requalify_jobs (s : State) : s.requalify.jobs = s.jobs := rfl
@[simp] theorem State.requalify_nextJob (s : State) : s.requalify.nextJob = s.nextJob := rfl
@[simp] theorem State.requalify_engine (s : State) : s.requalify.engine = s.engine := rfl
@[simp] theorem State.requalify_log (s : State) : s.requalify.log = s.log := rfl
@[simp] theorem State.requalify_unread (s : State) : s.requalify.unread = s.unread := rfl
@[simp] theorem State.requalify_reference (s : State) : s.requalify.reference = s.reference := rfl
@[simp] theorem State.requalify_tickets (s : State) : s.requalify.tickets = s.tickets := rfl
@[simp] theorem State.requalify_nextTicket (s : State) : s.requalify.nextTicket = s.nextTicket := rfl
@[simp] theorem State.requalify_orders (s : State) : s.requalify.orders = s.orders := rfl
@[simp] theorem State.requalify_nextOrder (s : State) : s.requalify.nextOrder = s.nextOrder := rfl
@[simp] theorem State.requalify_handoffs (s : State) : s.requalify.handoffs = s.handoffs := rfl
@[simp] theorem State.requalify_nextHandoff (s : State) : s.requalify.nextHandoff = s.nextHandoff := rfl
@[simp] theorem State.requalify_hall (s : State) : s.requalify.hall = s.hall := rfl
@[simp] theorem State.requalify_retentionLost (s : State) : s.requalify.retentionLost = s.retentionLost := rfl

/-! ### judgeAttention -/

@[simp] theorem State.judgeAttention_pending (s : State) : s.judgeAttention.pending = s.pending := rfl
@[simp] theorem State.judgeAttention_mainUp (s : State) : s.judgeAttention.mainUp = s.mainUp := rfl
@[simp] theorem State.judgeAttention_lossMark (s : State) : s.judgeAttention.lossMark = s.lossMark := rfl
@[simp] theorem State.judgeAttention_lines (s : State) : s.judgeAttention.lines = s.lines := rfl
@[simp] theorem State.judgeAttention_links (s : State) :
    s.judgeAttention.links = #v[s.judgedLink 0, s.judgedLink 1, s.judgedLink 2, s.judgedLink 3] := rfl
@[simp] theorem State.judgeAttention_records (s : State) : s.judgeAttention.records = s.records := rfl
@[simp] theorem State.judgeAttention_recalls (s : State) : s.judgeAttention.recalls = s.recalls := rfl
@[simp] theorem State.judgeAttention_capture (s : State) : s.judgeAttention.capture = s.capture := rfl
@[simp] theorem State.judgeAttention_settings (s : State) : s.judgeAttention.settings = s.settings := rfl
@[simp] theorem State.judgeAttention_parked (s : State) : s.judgeAttention.parked = s.parked := rfl
@[simp] theorem State.judgeAttention_jobs (s : State) : s.judgeAttention.jobs = s.jobs := rfl
@[simp] theorem State.judgeAttention_nextJob (s : State) : s.judgeAttention.nextJob = s.nextJob := rfl
@[simp] theorem State.judgeAttention_engine (s : State) : s.judgeAttention.engine = s.engine := rfl
@[simp] theorem State.judgeAttention_log (s : State) : s.judgeAttention.log = s.log := rfl
@[simp] theorem State.judgeAttention_unread (s : State) : s.judgeAttention.unread = s.unread := rfl
@[simp] theorem State.judgeAttention_reference (s : State) : s.judgeAttention.reference = s.reference := rfl
@[simp] theorem State.judgeAttention_tickets (s : State) : s.judgeAttention.tickets = s.tickets := rfl
@[simp] theorem State.judgeAttention_nextTicket (s : State) : s.judgeAttention.nextTicket = s.nextTicket := rfl
@[simp] theorem State.judgeAttention_orders (s : State) : s.judgeAttention.orders = s.orders := rfl
@[simp] theorem State.judgeAttention_nextOrder (s : State) : s.judgeAttention.nextOrder = s.nextOrder := rfl
@[simp] theorem State.judgeAttention_handoffs (s : State) : s.judgeAttention.handoffs = s.handoffs := rfl
@[simp] theorem State.judgeAttention_nextHandoff (s : State) : s.judgeAttention.nextHandoff = s.nextHandoff := rfl
@[simp] theorem State.judgeAttention_hall (s : State) : s.judgeAttention.hall = s.hall := rfl
@[simp] theorem State.judgeAttention_retentionLost (s : State) : s.judgeAttention.retentionLost = s.retentionLost := rfl

end Sys2Proof.Machine
end

