-- ==== Sys2Proof/Laws/Ops.lean ====
section
/-! SUPPORT. What each shared operation can do, said once: records, links, attention, and a request taken. -/

namespace Sys2Proof.Machine

/-! ### Records -/

@[simp] theorem State.tool_setTool_self (s : State) (n : RecNo) (r : ToolRecord) : (s.setTool n r).tool n = r := by
  simp [State.tool, State.setTool]

theorem State.tool_setTool_ne (s : State) {n m : RecNo} (r : ToolRecord) (h : m ≠ n) :
    (s.setTool n r).tool m = s.tool m := by
  have hv : (n : Nat) ≠ m := fun e => h (Fin.ext e.symm)
  simp [State.tool, State.setTool, Vector.getElem_set_ne _ _ hv]

theorem State.tool_setTool (s : State) (n m : RecNo) (r : ToolRecord) :
    (s.setTool n r).tool m = if m = n then r else s.tool m := by
  by_cases h : m = n
  · subst h; simp
  · simp [h, s.tool_setTool_ne r h]

theorem State.changeTool_eq (s : State) (n : RecNo) (f : ToolRecord → ToolRecord) :
    s.changeTool n f = s.setTool n ((s.tool n).change (f (s.tool n))) := rfl

@[simp] theorem State.tool_changeTool_self (s : State) (n : RecNo) (f : ToolRecord → ToolRecord) :
    (s.changeTool n f).tool n = (s.tool n).change (f (s.tool n)) := s.tool_setTool_self n _

theorem State.tool_changeTool_ne (s : State) {n m : RecNo} (f : ToolRecord → ToolRecord) (h : m ≠ n) :
    (s.changeTool n f).tool m = s.tool m := s.tool_setTool_ne _ h

/-- A change that moves the state raises the version by one (R11). -/
theorem ToolRecord.change_of_state (old new : ToolRecord) (h : new.state ≠ old.state) :
    old.change new = { new with version := old.version + 1 } := by
  unfold ToolRecord.change
  rw [if_neg]
  intro e
  rw [← e] at h
  exact h rfl

/-- A change that moves the location raises the version by one (R11). -/
theorem ToolRecord.change_of_loc (old new : ToolRecord) (h : new.loc ≠ old.loc) :
    old.change new = { new with version := old.version + 1 } := by
  unfold ToolRecord.change
  rw [if_neg]
  intro e
  rw [← e] at h
  exact h rfl

/-- A change that alters nothing leaves the record as it was (R11). -/
theorem ToolRecord.change_self (r : ToolRecord) : r.change r = r := by simp [ToolRecord.change]

/-- Whatever a change does, every field but the version is the new one's (R11). -/
theorem ToolRecord.change_version_only (old new : ToolRecord) :
    ∃ v, old.change new = { new with version := v } := by
  unfold ToolRecord.change
  split
  · next h => exact ⟨old.version, h.symm⟩
  · exact ⟨_, rfl⟩

@[simp] theorem ToolRecord.change_state (old new : ToolRecord) : (old.change new).state = new.state := by
  obtain ⟨v, h⟩ := ToolRecord.change_version_only old new; rw [h]

@[simp] theorem ToolRecord.change_tag (old new : ToolRecord) : (old.change new).tag = new.tag := by
  obtain ⟨v, h⟩ := ToolRecord.change_version_only old new; rw [h]

@[simp] theorem ToolRecord.change_loc (old new : ToolRecord) : (old.change new).loc = new.loc := by
  obtain ⟨v, h⟩ := ToolRecord.change_version_only old new; rw [h]

@[simp] theorem ToolRecord.change_lifeRem (old new : ToolRecord) : (old.change new).lifeRem = new.lifeRem := by
  obtain ⟨v, h⟩ := ToolRecord.change_version_only old new; rw [h]

@[simp] theorem ToolRecord.change_lifeInit (old new : ToolRecord) : (old.change new).lifeInit = new.lifeInit := by
  obtain ⟨v, h⟩ := ToolRecord.change_version_only old new; rw [h]

@[simp] theorem ToolRecord.change_recalled (old new : ToolRecord) : (old.change new).recalled = new.recalled := by
  obtain ⟨v, h⟩ := ToolRecord.change_version_only old new; rw [h]

/-- Counting a change again against the record it started from changes nothing (R11). -/
theorem ToolRecord.change_change (old new : ToolRecord) : old.change (old.change new) = old.change new := by
  obtain ⟨v, h⟩ := ToolRecord.change_version_only old new
  conv_lhs => rw [h]
  rfl

@[simp] theorem State.tool_asOneChange_self (t s : State) (n : RecNo) :
    (t.asOneChange s n).tool n = (s.tool n).change (t.tool n) := t.tool_setTool_self n _

theorem State.tool_asOneChange_ne (t s : State) {n m : RecNo} (h : m ≠ n) : (t.asOneChange s n).tool m = t.tool m :=
  t.tool_setTool_ne _ h

/-- Putting back the record that is there changes nothing. -/
theorem State.setTool_self (s : State) (n : RecNo) : s.setTool n (s.tool n) = s := by
  simp [State.setTool, State.tool]

/-- A change of one step is one change as it is. -/
theorem State.asOneChange_changeTool (s : State) (n : RecNo) (f : ToolRecord → ToolRecord) :
    (s.changeTool n f).asOneChange s n = s.changeTool n f := by
  rw [State.asOneChange, s.tool_changeTool_self, ToolRecord.change_change, ← s.tool_changeTool_self, State.setTool_self]

/-- What several steps of one change reach beyond the record: nothing more than they did. -/
theorem State.asOneChange_eq (t s : State) (n : RecNo) :
    t.asOneChange s n = { t with records := (t.asOneChange s n).records } := rfl

/-- The record number that a request spells (R1). -/
theorem recNo?_eq {v : BitVec 16} {n : RecNo} (h : v.toNat = n.val) : recNo? v = some n := by
  have hn := n.isLt
  simp [recNo?, h, hn]

/-! ### Links -/

@[simp] theorem State.link_changeLink_self (s : State) (l : LinkId) (f : Link → Link) :
    (s.changeLink l f).link l = f (s.link l) := by simp [State.link]

theorem State.link_changeLink_ne (s : State) {l m : LinkId} (f : Link → Link) (h : m ≠ l) :
    (s.changeLink l f).link m = s.link m := by
  have hv : (l : Nat) ≠ m := fun e => h (Fin.ext e.symm)
  simp [State.link, Vector.getElem_set_ne _ _ hv]

theorem State.received_eq (s : State) (l : LinkId) :
    s.received l = s.changeLink l (fun k => { k with receiver := .hunting, spaceChars := 0 }) := rfl

@[simp] theorem State.link_received_self (s : State) (l : LinkId) :
    (s.received l).link l = { s.link l with receiver := .hunting, spaceChars := 0 } := by
  rw [State.received_eq]; simp

/-- Two changes of one link are one. -/
theorem State.changeLink_changeLink (s : State) (l : LinkId) (f g : Link → Link) :
    (s.changeLink l f).changeLink l g = s.changeLink l (fun k => g (f k)) := by
  simp [State.changeLink, State.link, Vector.set_set]

/-! ### Attention -/

theorem State.link_judgeAttention (s : State) (l : LinkId) : s.judgeAttention.link l = s.judgedLink l := by
  match l with
  | 0 => rfl
  | 1 => rfl
  | 2 => rfl
  | 3 => rfl

/-- What a command does while main power is up (R212). -/
theorem State.event_up (f : State → State) (s : State) (h : s.mainUp = true) :
    State.event f s = .next (f s).judgeAttention := by simp [State.event, h]

/-- While main power is down no request and no event is taken (R212). -/
theorem State.event_down (f : State → State) (s : State) (h : s.mainUp = false) : State.event f s = .next s := by
  simp [State.event, h]

/-! ### A request taken (R206, R207) -/

/-- A request command on an idle link that its role may send: its owning rule's change with the answer in the
transmitter, judged for attention. -/
theorem State.event_submit {s : State} {c : Caller} {i : Instr} {op : State → State × Reply} (up : s.mainUp = true)
    (heeds : (s.link c.link).ignoring = false) (idle : (s.link c.link).waiting = none)
    (free : (s.link c.link).tx = none) (opens : roleAllows (i.code.getD 0) (s.link c.link).role = true) :
    State.event (State.submit i c op) s =
      .next (State.judgeAttention (State.answer c.link (frameOf i c) (op (s.received c.link)))) := by
  simp [State.event, up, State.submit, heeds, State.handIn, idle, free, State.byRole, opens]

/-- A frame discarded because another waits leaves all but the receiver as it was (R206). -/
theorem State.handIn_waiting {s : State} {l : LinkId} {f g : Frame} {judge : State → State × Reply}
    (h : (s.link l).waiting = some g) : s.handIn l f judge = s := by simp [State.handIn, h]

/-- A frame that completes while an answer is being sent waits (R206). -/
theorem State.handIn_sending {s : State} {l : LinkId} {f : Frame} {a : Answer} {judge : State → State × Reply}
    (w : (s.link l).waiting = none) (h : (s.link l).tx = some a) :
    s.handIn l f judge = s.changeLink l (fun k => { k with waiting := some f }) := by simp [State.handIn, w, h]

end Sys2Proof.Machine
end

