-- ==== Sys2Proof/Laws/Pass.lean ====
section
/-! SUPPORT. What an issue pass, a fetch round and the engine's choice can do, said once (R75, R132, R148). -/

namespace Sys2Proof.Machine

/-- What a settle can do from `s`: nothing outside the table, the two queues, the order list and the engine; a record
stays, or was READY at CRIB and is ALLOCATED; and each list stays within its size. -/
structure State.Settles (s t : State) : Prop where
  frame   : t = { s with records := t.records, jobs := t.jobs, nextJob := t.nextJob, engine := t.engine,
                         tickets := t.tickets, orders := t.orders, nextOrder := t.nextOrder }
  tools   : ∀ n, t.tool n = s.tool n ∨ ((s.tool n).state = .ready ∧ (s.tool n).loc.isCrib = true ∧
              t.tool n = { s.tool n with state := .allocated, version := (s.tool n).version + 1 })
  jobs    : s.jobs.length ≤ 16 → t.jobs.length ≤ 16
  orders  : s.orders.length ≤ 16 → t.orders.length ≤ 16
  tickets : t.tickets.length = s.tickets.length

theorem State.Settles.refl (s : State) : s.Settles s := ⟨rfl, fun _ => .inl rfl, id, id, rfl⟩

theorem State.Settles.trans {s t u : State} (h : s.Settles t) (k : t.Settles u) : s.Settles u := by
  refine ⟨?_, fun n => ?_, k.jobs ∘ h.jobs, k.orders ∘ h.orders, k.tickets.trans h.tickets⟩
  · rw [k.frame, h.frame]
  · rcases k.tools n with e | ⟨a, b, e⟩
    · rw [e]; exact h.tools n
    · rcases h.tools n with e' | ⟨_, _, e'⟩
      · rw [e'] at a b e; exact .inr ⟨a, b, e⟩
      · rw [e'] at a; exact absurd a (by simp)

/-- A fold of steps that each settle settles. -/
theorem State.Settles.foldl {α : Type} {f : State → α → State} (hf : ∀ s a, State.Settles s (f s a)) :
    ∀ (as : List α) (s : State), State.Settles s (as.foldl f s)
  | [], s => .refl s
  | a :: as, s => (hf s a).trans (foldl hf as (f s a))

/-- A settle changes no record but a READY one at CRIB. -/
theorem State.Settles.tool_eq {s t : State} (h : s.Settles t) {n : RecNo}
    (k : ¬ ((s.tool n).state = .ready ∧ (s.tool n).loc.isCrib = true)) : t.tool n = s.tool n := by
  rcases h.tools n with e | ⟨a, b, _⟩
  · exact e
  · exact absurd ⟨a, b⟩ k

/-! ### The shared list operations -/

theorem length_placeTail {α : Type} (u : α → Bool) (e : α) (q : List α) : (placeTail u e q).length = q.length + 1 := by
  unfold placeTail
  split
  · have := List.length_eq_length_filter_add (l := q) u
    simp only [List.length_append, List.length_cons]
    omega
  · simp

theorem length_placeHead {α : Type} (u : α → Bool) (e : α) (q : List α) : (placeHead u e q).length = q.length + 1 := by
  unfold placeHead
  split
  · simp
  · have := List.length_eq_length_filter_add (l := q) u
    simp only [List.length_append, List.length_cons]
    omega

/-- Taking a job out of the queue shortens it. -/
theorem length_filter_lt_of_find {α : Type} (p : α → Bool) (l : List α) (a : α) (h : l.find? p = some a) :
    (l.filter fun x => !p x).length < l.length := by
  have hp := List.find?_some h
  have hm := List.mem_of_find?_eq_some h
  have := List.length_eq_length_filter_add (l := l) p
  have : 0 < (l.filter p).length := List.length_pos_of_mem (List.mem_filter.2 ⟨hm, hp⟩)
  omega

/-! ### The steps of a settle -/

/-- A change of one ticket in its place settles. -/
theorem State.settles_changeTicket (s : State) (n : Nat) (f : Ticket → Ticket) : s.Settles (s.changeTicket n f) :=
  ⟨rfl, fun _ => .inl rfl, id, id, by simp [State.changeTicket]⟩

/-- An enqueue into a queue with room settles. -/
theorem State.settles_enqueue (s : State) (kind : JobKind) (r : Option RecNo) (plan : Plan) (o : Origin) (u : Bool)
    (p : QueuePlace) (h : s.jobs.length < 16) : s.Settles (s.enqueue kind r plan o u p).1 := by
  refine ⟨rfl, fun _ => .inl rfl, fun _ => ?_, id, rfl⟩
  cases p <;> simp only [State.enqueue, length_placeTail, length_placeHead] <;> omega

theorem State.settles_promote (s : State) (n : Nat) : s.Settles (s.promote n) := by
  unfold State.promote
  split
  · exact .refl s
  · next j hj =>
    split
    · exact .refl s
    · refine ⟨rfl, fun _ => .inl rfl, fun h => ?_, id, rfl⟩
      have := length_filter_lt_of_find _ _ _ hj
      simp only [length_placeTail, bne] at *
      omega

theorem State.settles_serve (s : State) (t : Ticket) (n : RecNo) (p : Fin 240) (hs : (s.tool n).state = .ready)
    (hl : (s.tool n).loc.isCrib = true) (ho : s.orders.length < 16) : s.Settles (s.serve t n p) := by
  refine ⟨rfl, fun m => ?_, id, fun _ => ?_, by simp [State.serve, State.changeTicket, State.makeOrder]⟩
  · have e : (s.serve t n p).tool m = (s.changeTool n fun r => { r with state := .allocated }).tool m := rfl
    by_cases h : m = n
    · subst h
      rw [e, s.tool_changeTool_self, ToolRecord.change_of_state _ _ (by simp [hs])]
      exact .inr ⟨hs, hl, rfl⟩
    · rw [e, s.tool_changeTool_ne _ h]
      exact .inl rfl
  · simp only [State.serve, State.changeTicket, State.makeOrder, State.changeTool_orders, List.length_append,
      List.length_cons, List.length_nil]
    omega

theorem State.settles_escalate (s : State) (t : Ticket) : s.Settles (s.escalate t) := by
  unfold State.escalate
  split
  · exact s.settles_changeTicket _ _
  · split
    · exact (s.settles_promote _).trans (State.settles_changeTicket _ _ _)
    · split
      · next h =>
        refine (s.settles_enqueue _ _ _ _ _ _ ?_).trans (State.settles_changeTicket _ _ _)
        simp only [State.mayEnqueue, Bool.and_eq_true, decide_eq_true_eq] at h
        exact h.1
      · exact s.settles_changeTicket _ _

/-- What `bestOf` answers is an entry of the list. -/
theorem mem_of_bestOf {b : ToolRecord → ToolRecord → Bool} :
    ∀ {l : List (RecNo × ToolRecord)} {e : RecNo × ToolRecord}, bestOf b l = some e → e ∈ l
  | [], _, h => by simp [bestOf] at h
  | x :: xs, e, h => by
    unfold bestOf at h
    split at h
    · next hx => simp at h; simp [h]
    · next f hf =>
      split at h
      · simp at h; subst h; exact List.mem_cons_of_mem _ (mem_of_bestOf hf)
      · simp at h; simp [h]

/-! ### The table in number order -/

theorem mem_numbered : ∀ (rs : List ToolRecord) (i : Nat) (n : RecNo) (r : ToolRecord),
    (n, r) ∈ numbered i rs ↔ i ≤ n.val ∧ rs[n.val - i]? = some r
  | [], i, n, r => by simp [numbered]
  | x :: xs, i, n, r => by
    unfold numbered
    split
    · next h =>
      rw [List.mem_cons, mem_numbered xs (i + 1) n r]
      constructor
      · rintro (e | ⟨a, b⟩)
        · simp only [Prod.mk.injEq] at e
          obtain ⟨rfl, rfl⟩ := e
          simp
        · refine ⟨by omega, ?_⟩
          rw [show n.val - i = (n.val - (i + 1)) + 1 by omega]
          simpa using b
      · rintro ⟨a, b⟩
        by_cases e : n.val = i
        · left
          simp only [e, Nat.sub_self, List.getElem?_cons_zero, Option.some.injEq] at b
          subst b
          simp only [Prod.mk.injEq, and_true]
          exact Fin.ext e
        · right
          refine ⟨by omega, ?_⟩
          rw [show n.val - i = (n.val - (i + 1)) + 1 by omega] at b
          simpa using b
    · next h => simp; intro a; have := n.isLt; omega

/-- The table lists exactly the records of the part. -/
theorem State.mem_table (s : State) (n : RecNo) (r : ToolRecord) : (n, r) ∈ s.table ↔ r = s.tool n := by
  have hn := n.isLt
  unfold State.table
  rw [mem_numbered]
  simp [State.tool, eq_comm, hn]

theorem State.settles_passWaiting (s : State) (t : Ticket) : s.Settles (s.passWaiting t) := by
  unfold State.passWaiting
  split
  · next n r h =>
    split
    · next p hp =>
      split
      · next hg =>
        have hm : (n, r) ∈ s.table.filter fun e => s.isCandidate t e.1 e.2 := mem_of_bestOf h
        simp only [List.mem_filter, s.mem_table] at hm
        obtain ⟨rfl, hc⟩ := hm
        simp only [State.isCandidate, Bool.and_eq_true, beq_iff_eq] at hc
        simp only [Bool.and_eq_true] at hg
        refine s.settles_serve t n p hc.1.1.1.1.1 hc.1.1.1.1.2 ?_
        have hg2 := hg.2
        simp only [State.grantsTicket, State.freeSlots] at hg2
        split at hg2 <;> have := of_decide_eq_true hg2 <;> omega
      · exact s.settles_changeTicket _ _
    · exact .refl s
  · split
    · exact s.settles_escalate t
    · split
      · exact .refl s
      · exact s.settles_changeTicket _ _

theorem State.settles_passTicket (s : State) (n : Nat) : s.Settles (s.passTicket n) := by
  unfold State.passTicket
  split
  · exact .refl s
  · split
    · exact s.settles_passWaiting _
    · exact .refl s

theorem State.settles_grantFetch (s : State) (n : Nat) : s.Settles (s.grantFetch n) := by
  unfold State.grantFetch
  split
  · exact .refl s
  · split
    · exact .refl s
    · split
      · exact .refl s
      · split
        · next h =>
          refine ⟨rfl, fun _ => .inl rfl, fun k => ?_, fun _ => ?_, rfl⟩
          · simpa [State.makeOrder, State.changeJob] using k
          · simp only [State.makeOrder, State.changeJob, List.length_append, List.length_cons, List.length_nil]
            omega
        · exact .refl s

theorem State.settles_engineChoose (s : State) : s.Settles s.engineChoose := by
  unfold State.engineChoose
  split
  · split
    · exact .refl s
    · exact ⟨rfl, fun _ => .inl rfl, fun k => by simpa [State.changeJob] using k, id, rfl⟩
  · exact .refl s

/-- What the tail of a change can do, said once (R75, R130, R148, R156). -/
theorem State.settles_settle (s : State) (pass : Bool) : s.Settles (s.settle pass) := by
  unfold State.settle
  refine State.Settles.trans (t := if pass then s.issuePass else s) ?_ (State.Settles.trans ?_ (State.settles_engineChoose _))
  · cases pass
    · exact .refl s
    · exact State.Settles.foldl State.settles_passTicket _ s
  · exact State.Settles.foldl State.settles_grantFetch _ _

/-- The auto-calibrate check settles too: it only enqueues into a queue with room (R114). -/
theorem State.settles_autoCalCheck (s : State) : s.Settles s.autoCalCheck := by
  unfold State.autoCalCheck
  split
  · next h =>
    simp only [State.autoCalDue, Bool.and_eq_true, decide_eq_true_eq] at h
    exact s.settles_enqueue _ _ _ _ _ _ h.2
  · exact .refl s

theorem State.tool_settle (s : State) (pass : Bool) {n : RecNo}
    (k : ¬ ((s.tool n).state = .ready ∧ (s.tool n).loc.isCrib = true)) : (s.settle pass).tool n = s.tool n :=
  (s.settles_settle pass).tool_eq k

end Sys2Proof.Machine
end

