-- ==== Sys2Proof/Laws/Requests.lean ====
section
/-! SUPPORT. A request that is taken, said once: the owning rule's result is the command's next state. -/

namespace Sys2Proof.Machine

/-- The answer to a request of the table is the answered state of claims. -/
theorem State.answer_eq_answered (c : Caller) (i : Instr) (k : Nat) (r : State × Reply)
    (hf : i.functionByte = BitVec.ofNat 8 k) :
    State.judgeAttention (State.answer c.link (frameOf i c) r) = r.1.answered c k r.2.code r.2.results := by
  have e : (BitVec.ofNat 8 k + 0x80#8) = BitVec.ofNat 8 (k + 0x80) := by
    apply BitVec.eq_of_toNat_eq; simp
  simp only [State.answer, State.answered, frameOf, hf, e]

/-- A request taken at once from its caller: what its owning rule makes of the state, answered. -/
theorem State.event_submit_taken {s u : State} {c : Caller} {i : Instr} {op : State → State × Reply} {k : Nat}
    {code : ReplyCode} {results : List Byte} (h : s.Takes c k) (hc : i.code = some k)
    (hf : i.functionByte = BitVec.ofNat 8 k)
    (e : op (s.received c.link) = (u, { code := code, results := results })) :
    State.event (State.submit i c op) s = .next (u.answered c k code results) := by
  rw [State.event_submit h.up h.heeds h.empty h.idle (by rw [hc]; exact h.opens), State.answer_eq_answered c i k _ hf, e]

/-- The attention judgement tests exactly what R194 calls quiet. -/
theorem Link.quiet_iff (k : Link) : k.quiet = true ↔ k.IsQuiet := by
  have e : k.receiver.inBody = false ↔ ∀ n got, k.receiver ≠ .body n got := by
    cases k.receiver <;> simp [Receiver.inBody]
  simp only [Link.quiet, Bool.and_eq_true, Bool.not_eq_true', e, Option.isNone_iff_eq_none, decide_eq_true_eq]
  exact ⟨fun h => ⟨h.1.1.1, h.1.1.2, h.1.2, h.2⟩, fun h => ⟨⟨⟨h.1, h.2⟩, h.3⟩, h.4⟩⟩

/-- The judged line is driven exactly when R195 drives it. -/
theorem State.judgedLine_iff (s : State) (l : LinkId) : s.judgedLine l = true ↔
    (s.link l).IsQuiet ∧ ∃ d ∈ s.conditions l, (s.link l).mask[d.code - 1]? = some true := by
  have e : ∀ (m : List Bool) (i : Nat), m.getD i false = true ↔ m[i]? = some true := by
    intro m i; rw [List.getD_eq_getElem?_getD]; cases m[i]? <;> simp
  simp only [State.judgedLine, Bool.and_eq_true, Link.quiet_iff, List.any_eq_true, e]

/-- The lines are judged exactly when each shows what its judgement says. -/
theorem State.attentionJudged_iff (s : State) :
    s.AttentionJudged ↔ (s.mainUp = true → ∀ l, (s.link l).attention = s.judgedLine l) := by
  refine forall_congr' fun _ => forall_congr' fun l => ?_
  rw [← s.judgedLine_iff l]
  exact Bool.eq_iff_iff.symm

/-! ### A completed frame moves nothing but its link -/

@[simp] theorem State.role_received (s : State) (l m : LinkId) : ((s.received l).link m).role = (s.link m).role := by
  by_cases h : m = l
  · subst h; simp
  · rw [State.received_eq, State.link_changeLink_ne _ _ h]

@[simp] theorem State.edit_received (s : State) (l m : LinkId) : ((s.received l).link m).edit = (s.link m).edit := by
  by_cases h : m = l
  · subst h; simp
  · rw [State.received_eq, State.link_changeLink_ne _ _ h]

@[simp] theorem State.mask_received (s : State) (l m : LinkId) : ((s.received l).link m).mask = (s.link m).mask := by
  by_cases h : m = l
  · subst h; simp
  · rw [State.received_eq, State.link_changeLink_ne _ _ h]

@[simp] theorem State.tool_received (s : State) (l : LinkId) (n : RecNo) : (s.received l).tool n = s.tool n := rfl
@[simp] theorem State.holder?_received (s : State) (l : LinkId) (t : Tag) : (s.received l).holder? t = s.holder? t := rfl
@[simp] theorem State.jobOf?_received (s : State) (l : LinkId) (n : RecNo) : (s.received l).jobOf? n = s.jobOf? n := rfl
@[simp] theorem State.job?_received (s : State) (l : LinkId) (n : Nat) : (s.received l).job? n = s.job? n := rfl
@[simp] theorem State.currentJob?_received (s : State) (l : LinkId) : (s.received l).currentJob? = s.currentJob? := rfl
@[simp] theorem State.ticket?_received (s : State) (l : LinkId) (n : Nat) : (s.received l).ticket? n = s.ticket? n := rfl
@[simp] theorem State.order?_received (s : State) (l : LinkId) (n : Nat) : (s.received l).order? n = s.order? n := rfl
@[simp] theorem State.orderOf?_received (s : State) (l : LinkId) (n : RecNo) : (s.received l).orderOf? n = s.orderOf? n := rfl
@[simp] theorem State.handoff?_received (s : State) (l : LinkId) (n : Nat) : (s.received l).handoff? n = s.handoff? n := rfl
@[simp] theorem State.stale_received (s : State) (l : LinkId) : (s.received l).stale = s.stale := rfl
@[simp] theorem State.hasCalibrate_received (s : State) (l : LinkId) : (s.received l).hasCalibrate = s.hasCalibrate := rfl
@[simp] theorem State.doorIsOpen_received (s : State) (l : LinkId) : (s.received l).doorIsOpen = s.doorIsOpen := rfl

/-! ### Records found -/

/-- The lowest record at which a test holds: none exactly when it holds nowhere. -/
theorem State.lowest?_eq_none (s : State) (p : RecNo → ToolRecord → Bool) :
    s.lowest? p = none ↔ ∀ n, p n (s.tool n) = false := by
  simp only [State.lowest?, Option.map_eq_none_iff, List.find?_eq_none]
  constructor
  · intro h n
    have := h (n, s.tool n) ((s.mem_table n _).2 rfl)
    simpa using this
  · rintro h ⟨n, r⟩ hm
    rw [s.mem_table] at hm
    subst hm
    simp [h n]

/-- The test holds at the record found. -/
theorem State.lowest?_spec {s : State} {p : RecNo → ToolRecord → Bool} {n : RecNo} (h : s.lowest? p = some n) :
    p n (s.tool n) = true := by
  simp only [State.lowest?, Option.map_eq_some_iff] at h
  obtain ⟨⟨m, r⟩, hf, rfl⟩ := h
  have hm := List.mem_of_find?_eq_some hf
  rw [s.mem_table] at hm
  subst hm
  simpa using List.find?_some hf

/-- The record that carries a tag carries it (R1). -/
theorem State.holder?_spec {s : State} {t : Tag} {n : RecNo} (h : s.holder? t = some n) :
    (s.tool n).state ≠ .empty ∧ (s.tool n).tag = t := by
  have := State.lowest?_spec h
  simpa using this

/-- No record carries a tag (R1). -/
theorem State.holder?_none (s : State) (t : Tag) :
    s.holder? t = none ↔ ∀ n, (s.tool n).state ≠ .empty → (s.tool n).tag ≠ t := by
  rw [State.holder?, s.lowest?_eq_none]
  simp

/-- A pocket is free for a record when no other record stands in it (R6). -/
theorem State.pocketHeld_eq_false (s : State) (n : RecNo) (p : Fin 240) :
    s.pocketHeld n p = false ↔ ∀ k, k ≠ n → (s.tool k).loc ≠ .crib p := by
  have e : ∀ l : Location, (l.pocket? = some p) ↔ l = .crib p := by
    intro l; cases l <;> simp [Location.pocket?]
  simp only [State.pocketHeld, Option.isSome_eq_false_iff, Option.isNone_iff_eq_none, s.lowest?_eq_none,
    Bool.and_eq_false_iff, bne_eq_false_iff_eq, beq_eq_false_iff_ne, ne_eq, e]
  exact forall_congr' fun k => by tauto

end Sys2Proof.Machine
end

