-- ==== Sys2Proof/Laws/Jobs.lean ====
section
/-! SUPPORT. What the settings' application, the removal of a job and the end of a job can do, said once (R58, R69, R84). -/

namespace Sys2Proof.Machine

/-- The settings, their parked slots and the capture unit are all that the parked values reach (R56, R58). -/
theorem State.applySlot_eq (s : State) (i : SettingId) :
    s.applySlot i = { s with settings := (s.applySlot i).settings, parked := (s.applySlot i).parked,
                             capture := (s.applySlot i).capture } := by
  unfold State.applySlot
  split
  · rfl
  · unfold State.activate
    split
    · rfl
    · cases i <;> rfl

theorem State.applyParked_eq (s : State) :
    s.applyParked = { s with settings := s.applyParked.settings, parked := s.applyParked.parked,
                             capture := s.applyParked.capture } := by
  suffices h : ∀ (l : List SettingId) (s : State), l.foldl State.applySlot s =
      { s with settings := (l.foldl State.applySlot s).settings, parked := (l.foldl State.applySlot s).parked,
               capture := (l.foldl State.applySlot s).capture } from h _ s
  intro l
  induction l with
  | nil => intro s; rfl
  | cons a l ih => intro s; rw [List.foldl_cons, ih (s.applySlot a), s.applySlot_eq a]

/-- What the removal or the end of a job can do from `s`, its own record aside: the two queues, the order list, the
engine, the log, and the settings with the capture unit they reach; a record stays, or was READY at CRIB and is
ALLOCATED; and each list stays within its size. -/
structure State.Ends (s t : State) : Prop where
  frame   : t = { s with records := t.records, jobs := t.jobs, nextJob := t.nextJob, engine := t.engine,
                         tickets := t.tickets, orders := t.orders, nextOrder := t.nextOrder, log := t.log,
                         unread := t.unread, settings := t.settings, parked := t.parked, capture := t.capture }
  tools   : ∀ n, t.tool n = s.tool n ∨ ((s.tool n).state = .ready ∧ (s.tool n).loc.isCrib = true ∧
              t.tool n = { s.tool n with state := .allocated, version := (s.tool n).version + 1 })
  jobs    : s.jobs.length ≤ 16 → t.jobs.length ≤ 16
  orders  : s.orders.length ≤ 16 → t.orders.length ≤ 16
  tickets : t.tickets.length = s.tickets.length
  log     : s.log.length ≤ 32 → t.log.length ≤ 32

theorem State.Ends.refl (s : State) : s.Ends s := ⟨rfl, fun _ => .inl rfl, id, id, rfl, id⟩

theorem State.Ends.trans {s t u : State} (h : s.Ends t) (k : t.Ends u) : s.Ends u := by
  refine ⟨?_, fun n => ?_, k.jobs ∘ h.jobs, k.orders ∘ h.orders, k.tickets.trans h.tickets, k.log ∘ h.log⟩
  · rw [k.frame, h.frame]
  · rcases k.tools n with e | ⟨a, b, e⟩
    · rw [e]; exact h.tools n
    · rcases h.tools n with e' | ⟨_, _, e'⟩
      · rw [e'] at a b e; exact .inr ⟨a, b, e⟩
      · rw [e'] at a; exact absurd a (by simp)

theorem State.Settles.ends {s t : State} (h : s.Settles t) : s.Ends t :=
  ⟨by rw [h.frame], h.tools, h.jobs, h.orders, h.tickets, fun k => by rw [h.frame]; exact k⟩

theorem State.Ends.tool_eq {s t : State} (h : s.Ends t) {n : RecNo}
    (k : ¬ ((s.tool n).state = .ready ∧ (s.tool n).loc.isCrib = true)) : t.tool n = s.tool n := by
  rcases h.tools n with e | ⟨a, b, _⟩
  · exact e
  · exact absurd ⟨a, b⟩ k

theorem State.ends_applyParked (s : State) : s.Ends s.applyParked := by
  refine ⟨?_, ?_, ?_, ?_, ?_, ?_⟩
  · rw [s.applyParked_eq]
  · intro n; rw [s.applyParked_eq]; exact .inl rfl
  · rw [s.applyParked_eq]; exact id
  · rw [s.applyParked_eq]; exact id
  · rw [s.applyParked_eq]
  · rw [s.applyParked_eq]; exact id

theorem State.ends_engineToIdle (s : State) : s.Ends s.engineToIdle :=
  State.Ends.trans (t := { s with engine := Engine.idle }) ⟨rfl, fun _ => .inl rfl, id, id, rfl, id⟩
    (State.ends_applyParked _)

theorem State.ends_withoutJob (s : State) (n : Nat) : s.Ends (s.withoutJob n) :=
  ⟨rfl, fun _ => .inl rfl, fun h => (List.length_filter_le _ _).trans h, id, rfl, id⟩

theorem State.ends_withoutOrder (s : State) (n : Nat) : s.Ends (s.withoutOrder n) :=
  ⟨rfl, fun _ => .inl rfl, id, fun h => (List.length_filter_le _ _).trans h, rfl, id⟩

theorem State.ends_appendLog (s : State) (e : LogEntry) : s.Ends (s.appendLog e) := by
  refine ⟨rfl, fun _ => .inl rfl, id, id, rfl, fun _ => ?_⟩
  simp only [State.appendLog, List.length_drop]
  omega

/-- The removal of a job (R69). -/
theorem State.ends_dropJob (s : State) (j : Job) : s.Ends (s.dropJob j) := by
  unfold State.dropJob
  refine State.Ends.trans ?_ (State.settles_autoCalCheck _).ends
  split
  · exact (s.ends_withoutJob _).trans (State.ends_engineToIdle _)
  · exact s.ends_withoutJob _

/-- The withdrawal of a job with its order (R69, R155). -/
theorem State.ends_withdrawJob (b s : State) (j : Job) : s.Ends (b.withdrawJob s j) := by
  unfold State.withdrawJob
  refine State.Ends.trans (State.Ends.trans ?_ (State.ends_dropJob _ j)) (State.settles_settle _ _).ends
  unfold State.withdrawFetch
  split
  · exact s.ends_withoutOrder _
  · exact .refl s
  · exact .refl s

/-- A failed fetch's job removed (R73). -/
theorem State.ends_failFetch (s : State) (j : Job) : s.Ends (s.failFetch j) :=
  (s.ends_appendLog _).trans (State.ends_dropJob _ j)

/-- The end of a job once its record has its end state (R84). -/
theorem State.ends_concludeJob (s : State) (j : Job) (st : Status) (l r u : Option Nat) :
    s.Ends (s.concludeJob j st l r u) := by
  unfold State.concludeJob
  exact (s.ends_appendLog _).trans ((State.ends_dropJob _ j).trans (State.settles_settle _ _).ends)

@[simp] theorem State.tool_applyParked (s : State) (n : RecNo) : s.applyParked.tool n = s.tool n := by
  rw [s.applyParked_eq]; rfl

@[simp] theorem State.jobs_applyParked (s : State) : s.applyParked.jobs = s.jobs := by rw [s.applyParked_eq]

/-- The auto-calibrate check changes no record (R114). -/
@[simp] theorem State.tool_autoCalCheck (s : State) (n : RecNo) : s.autoCalCheck.tool n = s.tool n := by
  unfold State.autoCalCheck; split <;> rfl

theorem State.jobOf?_isNone (s : State) (n : RecNo) :
    (s.jobOf? n).isNone = s.jobs.all (fun k => k.record != some n) := by
  rw [Bool.eq_iff_iff]
  simp [State.jobOf?]

/-- The auto-calibrate check makes no job that names a record (R114). -/
theorem State.jobOf?_autoCalCheck_isNone (s : State) (n : RecNo) :
    (s.autoCalCheck.jobOf? n).isNone = s.jobs.all (fun k => k.record != some n) := by
  rw [State.jobOf?_isNone]
  unfold State.autoCalCheck
  split
  · simp [State.enqueue, placeHead]
  · rfl

/-! ### Peaks (R93) -/

/-- The greatest of a list is in it and no entry is greater. -/
theorem greatest_spec : ∀ l : List Int, l ≠ [] → greatest l ∈ l ∧ ∀ m ∈ l, m ≤ greatest l
  | [], h => absurd rfl h
  | [m], _ => by simp [greatest]
  | m :: n :: ms, _ => by
    obtain ⟨hm, hle⟩ := greatest_spec (n :: ms) (by simp)
    rw [greatest]
    · refine ⟨?_, fun k hk => ?_⟩
      · rcases max_choice m (greatest (n :: ms)) with h | h <;> rw [h]
        · simp
        · exact List.mem_cons_of_mem _ hm
      · rcases List.mem_cons.1 hk with rfl | hk
        · exact le_max_left _ _
        · exact (hle k hk).trans (le_max_right _ _)
    · simp

/-- The least of a list is in it and no entry is less. -/
theorem least_spec : ∀ l : List Int, l ≠ [] → least l ∈ l ∧ ∀ m ∈ l, least l ≤ m
  | [], h => absurd rfl h
  | [m], _ => by simp [least]
  | m :: n :: ms, _ => by
    obtain ⟨hm, hle⟩ := least_spec (n :: ms) (by simp)
    rw [least]
    · refine ⟨?_, fun k hk => ?_⟩
      · rcases min_choice m (least (n :: ms)) with h | h <;> rw [h]
        · simp
        · exact List.mem_cons_of_mem _ hm
      · rcases List.mem_cons.1 hk with rfl | hk
        · exact min_le_left _ _
        · exact (min_le_right _ _).trans (hle k hk)
    · simp

end Sys2Proof.Machine
end

