-- ==== Sys2Proof/Tests/Slice0.lean ====
section
/-! SUPPORT. Tests of the model: the refusals of `wellFormed`, the frame layout, one-step tests on small states with
expected results from the spec's text and tables, and a witness for the hypotheses of every statement that has any. -/

namespace Sys2Proof.Tests

-- The kernel evaluates the tests one after another: side by side they need more memory than the checks allow.
set_option Elab.async false

open Sys2Proof Sys2Proof.Machine

/-! ### Small states -/

/-- Callers on the four links of the reset state: S0 PRESETTER, S1 CRIB, S2 CELL, S3 SUPERVISOR. -/
def pre : Caller := { link := 0, tagByte := 0x41 }
def crib : Caller := { link := 1, tagByte := 0x42 }
def cell : Caller := { link := 2, tagByte := 0x43 }
def sup : Caller := { link := 3, tagByte := 0x44 }

/-- A request is taken at once from a caller, as a test. -/
def takes (s : State) (c : Caller) (code : Nat) : Bool :=
  s.mainUp && !(s.link c.link).ignoring && (s.link c.link).waiting.isNone && (s.link c.link).tx.isNone &&
    roleAllows code (s.link c.link).role

theorem takes_spec {s : State} {c : Caller} {code : Nat} (h : takes s c code = true) : s.Takes c code := by
  simp only [takes, Bool.and_eq_true, Bool.not_eq_true', Option.isNone_iff_eq_none] at h
  exact ⟨h.1.1.1.1, h.1.1.1.2, h.1.1.2, h.1.2, h.2⟩

/-- A registered tool with its tag, state and place. -/
def mkTool (tag : Tag) (st : RecState) (loc : Location) : ToolRecord :=
  { ToolRecord.blank with
    state := st, version := 3, tag := tag, cls := 5, loc := loc, nomLen := 2260000, nomRad := 250000, lenTol := 200
    radTol := 200, runoutLimit := 50, wearLimit := 300, plan := { features := .both, stations := 2, samples := 2 }
    lifeInit := 1000, lifeRem := 400, presetLen := some 2260010, presetRad := some 250010 }

def base : State := State.reset
def withTool (n : RecNo) (st : RecState) (loc : Location) : State := base.setTool n (mkTool 77 st loc)
def recalledTool (n : RecNo) (st : RecState) (loc : Location) : State :=
  { base.setTool n { mkTool 77 st loc with recalled := true } with recalls := [77] }
def withJobs (s : State) (js : List Job) : State := { s with jobs := js, nextJob := 9 }
def mkJob (number : Nat) (kind : JobKind) (r : Option RecNo) (ph : JobPhase) : Job :=
  { number := number, kind := kind, record := r, plan := { features := .both, stations := 2, samples := 2 }
    origin := .supervisorLink, urgent := false, prior := some .ready, phase := ph }
def mkTicket (number : Nat) (ph : TicketPhase) : Ticket :=
  { number := number, link := 2, machine := 4, machinePocket := 9, cls := 5, minLife := 100, urgent := false, phase := ph
    attempts := 0, escalated := none, starved := false }
def mkOrder (number : Nat) (link : OrderLink) (r : RecNo) (ph : OrderPhase) : Order :=
  { number := number, link := link, record := r, pocket := 10, phase := ph }
def mkHandoff (number : Nat) (r : RecNo) (ph : HandoffPhase) : Handoff :=
  { number := number, ticket := 6, link := 2, machine := 4, machinePocket := 9, record := r
    snapshot := (mkTool 77 .inTransit .transit).snapshot, phase := ph }
def engineIn (s : State) (ph : EnginePhase) : State := { s with engine := { Engine.idle with phase := ph } }
def place : Place := { link := 2, machine := 4, pocket := 9 }

/-- The next state, or the reset state at a stop. -/
def nextOf : Host.Outcome State Fault Refusal → State
  | .next t => t
  | .fault _ => State.reset
  | .refused _ => State.reset

/-- The code and the results that a caller is being sent. -/
def said (o : Host.Outcome State Fault Refusal) (c : Caller) : Option (ReplyCode × List Byte) :=
  ((nextOf o).link c.link).tx.map fun a => (a.code, a.results)

/-! ### What a frame can carry (R203) -/

theorem test_editData_too_long_is_ill_formed : (Instr.editData sup (List.replicate 239 0)).wellFormed = false := by decide +kernel
theorem test_setMask_too_long_is_ill_formed : (Instr.setMask sup 7 (List.replicate 238 0)).wellFormed = false := by decide +kernel
theorem test_undefinedFunction_of_the_table_is_ill_formed :
    (Instr.undefinedFunction sup 0x30 []).wellFormed = false := by decide +kernel
theorem test_undefinedFunction_too_long_is_ill_formed :
    (Instr.undefinedFunction sup 0x31 (List.replicate 239 0)).wellFormed = false := by decide +kernel
theorem test_frame_of_one_byte_is_ill_formed : (Instr.frameReceived 0 [0x2A] 0).wellFormed = false := by decide +kernel
theorem test_frame_of_241_bytes_is_ill_formed :
    (Instr.frameReceived 0 (List.replicate 241 0) 0).wellFormed = false := by decide +kernel

/-- R204 gives this value for the nine bytes 0x31 to 0x39. -/
theorem test_frameCheck : frameCheck [0x31, 0x32, 0x33, 0x34, 0x35, 0x36, 0x37, 0x38, 0x39] = 0x29B1 := by decide +kernel

/-- A tag is sent least significant byte first (R203). -/
theorem test_addRecall_params : (Instr.addRecall sup 0x0102030405060708).params = [8, 7, 6, 5, 4, 3, 2, 1] := by decide
/-- Record 300 is 0x012C; the amount is three bytes (R179, R203). -/
theorem test_reportUsage_decodes : decodeRequest cell 0x26 [0x2C, 0x01, 0x10, 0x27, 0x00] =
    some (.reportUsage cell 300 10000) := by decide
theorem test_short_parameters_do_not_decode : decodeRequest cell 0x26 [0x2C, 0x01, 0x10, 0x27] = none := by decide
/-- MEASURE's override takes its marker and its full width (R65, R203). -/
theorem test_measure_decodes : decodeRequest sup 0x0F [0, 7, 0, 1, 1, 3, 2, 4] =
    some (.measure sup 0 7 1 1 3 2 4) := by decide

/-! ### One-step tests -/

theorem test_register : let t := nextOf (exec (.register sup 300 77 5 2260000 250000 200 200 50 300 3 2 2 1 1000) base)
    (t.tool 300).state = .presetDue ∧ (t.tool 300).version = 1 ∧ (t.tool 300).lifeRem = 1000 := by decide +kernel
/-- A class of 0 becomes 1, a sample count of 7 becomes 4, and the answer is OK_CLAMPED (R4, R13). -/
theorem test_register_clamps : let o := exec (.register sup 300 77 0 2260000 250000 200 200 50 300 3 2 7 1 1000) base
    ((nextOf o).tool 300).cls = 1 ∧ ((nextOf o).tool 300).plan.samples = 4 ∧
      (said o sup).map (·.1) = some .okClamped := by decide +kernel
theorem test_retire : (nextOf (exec (.retire sup 5) (withTool 5 .worn (.crib 10)))).tool 5 =
    { ToolRecord.blank with version := 4 } := by decide +kernel
theorem test_release : ((nextOf (exec (.release sup 5) (withTool 5 .quarantine (.crib 10)))).tool 5).state =
    .presetDue := by decide +kernel
theorem test_release_recalled : said (exec (.release sup 5) (recalledTool 5 .quarantine (.crib 10))) sup =
    some (.recalled, []) := by decide +kernel
theorem test_resetLife : let t := (nextOf (exec (.resetLife sup 5) (withTool 5 .worn (.crib 10)))).tool 5
    t.state = .presetDue ∧ t.lifeRem = 1000 ∧ t.presetLen = none := by decide +kernel
theorem test_reconcile_in_machine : ((nextOf (exec (.reconcile sup 5 3 0 2 4 9) (withTool 5 .check .unknown))).tool 5).loc =
    .machine place := by decide +kernel
theorem test_addRecall : let t := nextOf (exec (.addRecall sup 77) (withTool 5 .ready (.crib 10)))
    (t.tool 5).state = .quarantine ∧ (t.tool 5).recalled = true ∧ t.recalls = [77] := by decide +kernel
theorem test_removeRecall : let t := nextOf (exec (.removeRecall sup 77) (recalledTool 5 .quarantine (.crib 10)))
    (t.tool 5).state = .quarantine ∧ (t.tool 5).recalled = false ∧ t.recalls = [] := by decide +kernel
theorem test_listRecall : said (exec (.listRecall sup 0 29) { base with recalls := [1] }) sup =
    some (.ok, [1, 1, 1, 0, 0, 0, 0, 0, 0, 0]) := by decide +kernel
theorem test_readRecord_state : said (exec (.readRecord cell 5 0 1) (withTool 5 .ready (.crib 10))) cell =
    some (.ok, [5, 0, 0, 1, 3, 0, 3]) := by decide +kernel
theorem test_readRecord_past_the_end : said (exec (.readRecord cell 5 23 2) (withTool 5 .ready (.crib 10))) cell =
    some (.badField, []) := by decide +kernel

/-- A supervisor's edit of the class: opened, filled and closed in one state each. -/
def editing : State :=
  (withTool 5 .ready (.crib 10)).changeLink 3 fun k =>
    { k with edit := some { record := 5, tag := 77, first := 3, last := 3, mode := .always, pointer := 3, entries := []
                            truncated := false, idleLeft := 5 } }
def edited : State :=
  editing.changeLink 3 fun k =>
    { k with edit := k.edit.map fun e => { e with pointer := 4, entries := [{ field := 3, op := .set, value := [9, 0] }] } }
theorem test_openEdit : said (exec (.openEdit sup 5 3 3 0 0) (withTool 5 .ready (.crib 10))) sup =
    some (.ok, [3, 0, 3, 0]) := by decide +kernel
theorem test_editData : said (exec (.editData sup [1, 9, 0]) editing) sup = some (.ok, [4, 1, 0]) := by decide +kernel
/-- Bytes past the window set the truncation mark (R31). -/
theorem test_editData_truncates : said (exec (.editData sup [1, 9, 0, 1]) editing) sup =
    some (.ok, [4, 1, 1]) := by decide +kernel
theorem test_closeEdit : let o := exec (.closeEdit sup) edited
    ((nextOf o).tool 5).cls = 9 ∧ said o sup = some (.committed, [1, 0, 0, 0, 0, 4, 0, 3]) := by decide +kernel
theorem test_abortEdit : ((nextOf (exec (.abortEdit sup) edited)).link 3).edit = none := by decide +kernel
theorem test_editIdleTimeout : ((nextOf (exec (.editIdleTimeout 3) edited)).link 3).edit = none := by decide +kernel

theorem test_encoderStep_up : (nextOf (exec (.encoderStep .z 1) base)).capture.z = 1 := by decide +kernel
theorem test_encoderStep_down_wraps : (nextOf (exec (.encoderStep .a 3) base)).capture.a = 4095 := by decide +kernel
theorem test_indexPulse_first : (nextOf (exec .indexPulse base)).capture.revolution =
    some { count := 0, result := .unchecked } := by decide +kernel
def listening : State := { base with capture := { base.capture with z := 5 } }
theorem test_edgeActive : (nextOf (exec .edgeActive listening)).capture.qualifier =
    .dwelling { sample := { z := 5, x := 0, a := 0 }, station := none } := by decide +kernel
def heldActive : State :=
  { base with lines := { base.lines with edgeLevel := true }, capture := { base.capture with qualifier := .heldActive } }
theorem test_edgeInactive : (nextOf (exec .edgeInactive heldActive)).capture.qualifier = .deadTime := by decide +kernel
def inState (q : Qualifier) : State := { base with capture := { base.capture with qualifier := q } }
def latch : Latch := { sample := { z := 5, x := 6, a := 7 }, station := none }
theorem test_dwellEnd : let t := nextOf (exec .dwellEnd (inState (.dwelling latch)))
    t.capture.qualifier = .heldActive ∧ t.capture.lastSample = some latch.sample := by decide +kernel
theorem test_deadTimeEnd : (nextOf (exec .deadTimeEnd (inState .deadTime))).capture.qualifier = .listening := by
  decide +kernel
theorem test_guardOpens : (nextOf (exec .guardOpens base)).capture.qualifier = .guarded := by decide +kernel
def guardOpen : State := { base with lines := { base.lines with guardLevel := true } }
theorem test_guardCloses : (nextOf (exec .guardCloses guardOpen)).capture.qualifier = .listening := by decide +kernel
theorem test_readAxes_clears_glitches : (nextOf (exec (.readAxes pre)
    { base with capture := { base.capture with glitchX := true } })).capture.glitchX = false := by decide +kernel

/-- A job at the presetter, at each state of the engine. -/
def atPresetter (ph : EnginePhase) (st : RecState) : State :=
  engineIn (withJobs (withTool 5 st .presetter) [mkJob 8 .preset (some 5) .current]) ph
theorem test_measure_offers : let o := exec (.measure sup 0 5 0 0 0 0 0) (withTool 5 .presetDue .presetter)
    (nextOf o).engine.phase = .offered ∧ said o sup = some (.accepted, [1, 0, 0]) := by decide +kernel
/-- A job for a tool in the crib is fetched in the same change (R71). -/
theorem test_measure_fetches : ((nextOf (exec (.measure sup 0 5 0 0 0 0 0) (withTool 5 .ready (.crib 10)))).jobs.map
    (·.phase)) = [.fetching 1] := by decide +kernel
theorem test_cancelJob : let t := nextOf (exec (.cancelJob sup 8) (atPresetter .offered .presetDue))
    t.jobs = [] ∧ t.engine = Engine.idle := by decide +kernel
theorem test_listJobs : said (exec (.listJobs sup) (withJobs base [mkJob 8 .preset (some 5) .waiting])) sup =
    some (.ok, [1, 8, 0, 0, 1, 5, 0, 1, 0, 0, 0, 0, 0]) := by decide +kernel
theorem test_getJob_idle : said (exec (.getJob pre) base) pre = some (.none, []) := by decide +kernel
theorem test_mount : let t := nextOf (exec (.mount pre 8 77) (atPresetter .offered .presetDue))
    t.engine.phase = .mounted ∧ (t.tool 5).state = .measuring := by decide +kernel
theorem test_armStation : (nextOf (exec (.armStation pre 8 0) (atPresetter .mounted .measuring))).engine.phase =
    .armed 10 := by decide +kernel
theorem test_armStation_wrong_station : said (exec (.armStation pre 8 1) (atPresetter .mounted .measuring)) pre =
    some (.badStation, []) := by decide +kernel
theorem test_abortJob : let t := nextOf (exec (.abortJob sup 8) (atPresetter .mounted .measuring))
    (t.tool 5).state = .presetDue ∧ t.unread = true ∧ t.log.map (·.status) = [.aborted] := by decide +kernel
def entryOf (n : Nat) : LogEntry :=
  { job := n, kind := .preset, record := some 5, tag := 77, status := .aborted, flags := JobFlags.clear, stations := 0
    length := none, radius := none, runout := none, hallTime := none }
def logged : State := { base with unread := true, log := [entryOf 8] }
theorem test_getResult : (nextOf (exec (.getResult pre) logged)).unread = false := by decide +kernel
theorem test_readResults : ((said (exec (.readResults sup 0 6) logged) sup).map fun r => r.2.length) = some 38 := by
  decide +kernel
/-- The log holds 32 entries: the oldest is overwritten (R85). -/
theorem test_abortJob_overwrites_the_oldest : let t := nextOf (exec (.abortJob sup 8) { atPresetter .mounted .measuring with
      log := entryOf 2 :: List.replicate 31 (entryOf 3) })
    t.log.map (·.job) = List.replicate 31 3 ++ [8] := by decide +kernel
theorem test_stationTimeout_no_edge : let t := nextOf (exec .stationTimeout (atPresetter (.armed 0) .measuring))
    t.log.map (·.status) = [.noEdge] ∧ (t.tool 5).state = .presetDue := by decide +kernel

/-- The mean of two values whose sum is odd rounds up, toward positive infinity (R92). -/
theorem test_stationMean_half : stationMean [1, 2] = 2 ∧ stationMean [-1, -2] = -1 := by decide
/-- 1 count at 50 nm is 0.5 u: away from zero (R94). -/
theorem test_convert_half : convert 1 50 = 1 ∧ convert (-1) 50 = -1 ∧ convert 1 49 = 0 := by decide

def gauged : State := { base with reference := { base.reference with gaugeTag := 900, gaugeLen := 1000, gaugeRad := 10 } }
/-- A gauge set while the reference is stale makes a calibration at once, and the idle engine offers it (R110, R114). -/
theorem test_setGauge : let t := nextOf (exec (.setGauge sup 900 1000 10 2 3) base)
    t.reference.calSamples = 2 ∧ t.jobs.map (·.kind) = [.calibrate] ∧ t.engine.phase = .offered := by decide +kernel
theorem test_readReference : ((said (exec (.readReference pre) base) pre).map fun r => r.2.length) = some 83 := by
  decide +kernel
theorem test_clearReference : (nextOf (exec (.clearReference sup)
    { base with reference := { base.reference with present := true, zRef := 4 } })).reference.zRef = 0 := by decide +kernel
def pendingRef : State :=
  { base with reference := { base.reference with present := true, timePending := true, pendingAge := 100 } }
/-- A reference accepted 100 s before the clock was set keeps 28,700 s of its 8 hours (R119). -/
theorem test_setTime_dates : let r := (nextOf (exec (.setTime sup 5000) pendingRef)).reference
    r.calTime = some 4900 ∧ r.validUntil = some 33700 ∧ r.timePending = false := by decide +kernel
theorem test_getTime : said (exec (.getTime cell) { base with hall := { count := 258, set := true } }) cell =
    some (.ok, [1, 2, 1, 0, 0]) := by decide +kernel
theorem test_hallClockAdvance : (nextOf (exec .hallClockAdvance
    { base with hall := { count := 4294967294, set := true } })).hall.count = 4294967295 := by decide +kernel
theorem test_pendingAgeTick : (nextOf (exec .pendingAgeTick pendingRef)).reference.pendingAge = 101 := by decide +kernel

/-- The ready tool with the least life goes out, and the answer tells it (R126, R135). -/
def twoReady : State :=
  (withTool 5 .ready (.crib 10)).setTool 3 { mkTool 78 .ready (.crib 11) with lifeRem := 300 }
theorem test_requestTool : let o := exec (.requestTool cell 4 9 5 300 0) twoReady
    ((nextOf o).tool 3).state = .allocated ∧ said o cell = some (.accepted, [1, 0, 1, 1, 3, 0, 0, 0, 0, 0]) := by
  decide +kernel
def waitingTicket : State := { base with tickets := [mkTicket 6 .waiting] }
theorem test_requestTool_duplicate : said (exec (.requestTool cell 4 9 5 300 0) waitingTicket) cell =
    some (.duplicate, []) := by decide +kernel
theorem test_withdrawTicket : (nextOf (exec (.withdrawTicket cell 6) waitingTicket)).tickets = [] := by decide +kernel
theorem test_issueStatus_of_another_number : said (exec (.issueStatus cell 7) waitingTicket) cell =
    some (.noSuchTicket, []) := by decide +kernel
theorem test_issueStatus_length : ((said (exec (.issueStatus cell 6) waitingTicket) cell).map fun r => r.2.length) =
    some 27 := by decide +kernel
theorem test_listTickets : said (exec (.listTickets cell) waitingTicket) cell = some (.ok, [1, 6, 0, 0]) := by
  decide +kernel

def dispensing (ph : OrderPhase) : State :=
  { withTool 5 .allocated (.crib 10) with
    tickets := [mkTicket 6 (.dispensing 5)], orders := [mkOrder 407 (.cell 6) 5 ph] }
/-- Order 407 is 0x0197; the destination is the ticket's, and the timer the setting's 180 s (R149). -/
theorem test_fetchOrder : said (exec (.fetchOrder crib) (dispensing .released)) crib =
    some (.ok, [0x97, 1, 0, 5, 0, 77, 0, 0, 0, 0, 0, 0, 0, 10, 1, 2, 4, 9, 180, 0]) := by decide +kernel
theorem test_fetchOrder_door_open : said (exec (.fetchOrder crib)
    { dispensing .released with lines := { base.lines with doorLevel := true } }) crib = some (.none, []) := by
  decide +kernel
theorem test_orderDone_delivered : let t := nextOf (exec (.orderDone crib 407 0) (dispensing (.fetched 1)))
    (t.tool 5).state = .inTransit ∧ t.tickets = [] ∧ t.handoffs.map (·.number) = [1] := by decide +kernel
theorem test_orderDone_not_fetched : said (exec (.orderDone crib 407 0) (dispensing .released)) crib =
    some (.notFetched, []) := by decide +kernel
/-- The spec's example at time 180: CHECK, UNKNOWN, ORDER_TIMEOUT, and the ticket's attempts become 1. -/
theorem test_dispenseTimeout : let t := nextOf (exec (.dispenseTimeout 407) (dispensing (.fetched 0)))
    (t.tool 5).state = .check ∧ (t.tool 5).lastFault = .orderTimeout ∧ t.tickets.map (·.attempts) = [1] := by
  decide +kernel
/-- The spec's example of returns: PRESET_DUE in pocket 17 with a RETURN job. -/
theorem test_deposit_returning : let t := nextOf (exec (.deposit crib 77 17) (withTool 140 .returning .transit))
    (t.tool 140).state = .presetDue ∧ (t.tool 140).loc = .crib 17 ∧ t.jobs.map (·.origin) = [.returned] := by
  decide +kernel
/-- A READY tool deposited for a waiting ticket goes out in the deposit's own pass: its version rises once, from 3 to 4
(R11, R130, R159). -/
theorem test_deposit_served_at_once : let o := exec (.deposit crib 77 17) { withTool 5 .ready .presetter with
      tickets := [mkTicket 6 .waiting] }
    ((nextOf o).tool 5).state = .allocated ∧ ((nextOf o).tool 5).version = 4 ∧
      said o crib = some (.ok, [5, 0, 4, 4, 0, 0, 0, 0]) := by decide +kernel
theorem test_deposit_damaged : ((nextOf (exec (.deposit crib 77 18)
    (base.setTool 52 { mkTool 77 .returning .transit with damaged := true }))).tool 52).state = .quarantine := by
  decide +kernel
theorem test_listOrders_length : ((said (exec (.listOrders crib) (dispensing .released)) crib).map
    fun r => r.2.length) = some 15 := by decide +kernel
theorem test_doorOpens : (nextOf (exec .doorOpens base)).lines.doorLevel = true := by decide +kernel
def doorOpen : State := { base with lines := { base.lines with doorLevel := true } }
theorem test_doorCloses : (nextOf (exec .doorCloses doorOpen)).lines.doorLevel = false := by decide +kernel

def handed (ph : HandoffPhase) : State :=
  { withTool 5 .inTransit .transit with handoffs := [mkHandoff 2 5 ph] }
theorem test_fetchHandoff : (nextOf (exec (.fetchHandoff cell) (handed .staged))).handoffs.map (·.phase) =
    [.offered 900] := by decide +kernel
theorem test_confirmLoad : let t := nextOf (exec (.confirmLoad cell 2 77) (handed (.offered 900)))
    (t.tool 5).state = .inMachine ∧ (t.tool 5).loc = .machine place ∧ t.handoffs = [] := by decide +kernel
theorem test_rejectHandoff : let t := nextOf (exec (.rejectHandoff cell 2) (handed (.offered 900)))
    (t.tool 5).state = .returning ∧ (t.tool 5).damaged = true := by decide +kernel
theorem test_loadTimeout : let t := nextOf (exec (.loadTimeout 2) (handed (.offered 0)))
    (t.tool 5).state = .check ∧ (t.tool 5).lastFault = .loadTimeout := by decide +kernel
theorem test_readHandoff_of_another_number : said (exec (.readHandoff cell 3) (handed .staged)) cell =
    some (.noSuchHandoff, []) := by decide +kernel
theorem test_listHandoffs : said (exec (.listHandoffs sup) (handed .staged)) sup = some (.ok, [1, 2, 0, 0]) := by
  decide +kernel
/-- An amount past the end of the life lowers it to 0, and the amount taken is the life there was (R179). -/
theorem test_reportUsage_past_the_end : said (exec (.reportUsage cell 5 500) (withTool 5 .inMachine (.machine place)))
    cell = some (.ok, [0, 0, 0, 4, 0, 0x90, 1, 0]) := by decide +kernel
theorem test_reportUnload : ((nextOf (exec (.reportUnload cell 5) (withTool 5 .inMachine (.machine place)))).tool 5).state =
    .returning := by decide +kernel

/-- After a cold start the supervisor sees RETENTION_LOST, CAL_DUE and TIME_UNSET (R213). -/
theorem test_conditionPoll : said (exec (.conditionPoll sup) base) sup =
    some (.ok, [1, 0, 0, 0, 3, 1, 4, 7, 1, 1, 1, 1, 1, 1, 1]) := by decide +kernel
theorem test_setMask : ((nextOf (exec (.setMask crib 2 [0, 1]) base)).link 1).mask = [false, true] := by decide +kernel
theorem test_setMask_wrong_count : said (exec (.setMask crib 3 [0, 1, 1]) base) crib = some (.outOfRange, []) := by
  decide +kernel
theorem test_clearRetentionLost : (nextOf (exec (.clearRetentionLost sup) base)).retentionLost = false := by
  decide +kernel
/-- A station timeout of 100 s becomes 60 (R208). -/
theorem test_setSetting_clamps : let o := exec (.setSetting sup 9 100) base
    (nextOf o).settings.stationTimeout = 60 ∧ said o sup = some (.okClamped, [9, 60, 0, 0, 0]) := by decide +kernel
theorem test_setSetting_parks : let o := exec (.setSetting sup 1 7) (atPresetter .mounted .measuring)
    (nextOf o).settings.dwell = 20 ∧ (nextOf o).parked.dwell = some 7 ∧ said o sup = some (.parked, [1, 7, 0, 0, 0]) := by
  decide +kernel
theorem test_getSetting : said (exec (.getSetting sup 4) base) sup =
    some (.ok, [4, 0, 16, 0, 0, 0, 0, 0, 0, 0]) := by decide +kernel
theorem test_undefinedFunction : said (exec (.undefinedFunction cell 0x31 []) base) cell = some (.badFunction, []) := by
  decide +kernel
theorem test_role_refused : said (exec (.retire cell 5) base) cell = some (.roleRefused, []) := by decide +kernel

/-- The frame of GET_TIME with tag byte 0x43, its check formed over 02 2E 43. -/
theorem test_frameReceived : said (exec (.frameReceived 2 [0x2E, 0x43] (frameCheck [2, 0x2E, 0x43])) base) cell =
    some (.ok, [0, 0, 0, 0, 0]) := by decide +kernel
theorem test_frameReceived_bad_check : said (exec (.frameReceived 2 [0x2E, 0x43] (frameCheck [2, 0x2E, 0x43] + 1)) base)
    cell = none := by decide +kernel
theorem test_characterReceived_sync : ((nextOf (exec (.characterReceived 2 0xC3 true) base)).link 2).receiver = .length := by
  decide +kernel
theorem test_characterReceived_bad_length : ((nextOf (exec (.characterReceived 2 241 true)
    (base.changeLink 2 fun k => { k with receiver := .length }))).link 2).receiver = .hunting := by decide +kernel
theorem test_receiveGapTimeout : ((nextOf (exec (.receiveGapTimeout 2)
    (base.changeLink 2 fun k => { k with receiver := .body 9 [1] }))).link 2).receiver = .hunting := by decide +kernel
def sending : State :=
  base.changeLink 2 fun k =>
    { k with tx := some { function := 0xAE, tagByte := 0x43, code := .ok, results := [] } }
/-- The answer of `sending` on the wire; the check 0xE11E over 03 AE 43 00 was worked out by R204 outside the model. -/
theorem test_answer_frame : (sending.link 2).sending = [0xC3, 3, 0xAE, 0x43, 0, 0xE1, 0x1E] := by decide +kernel
theorem test_frameReceived_waits : ((nextOf (exec (.frameReceived 2 [0x2E, 0x50] (frameCheck [2, 0x2E, 0x50])) sending)).link
    2).waiting = some { function := 0x2E, tagByte := 0x50, params := [] } := by decide +kernel
theorem test_answerSent : ((nextOf (exec (.answerSent 2) sending)).link 2).tx = none := by decide +kernel
def withWaiting : State :=
  sending.changeLink 2 fun k => { k with waiting := some { function := 0x2E, tagByte := 0x50, params := [] } }
theorem test_answerSent_takes_the_waiting_frame : ((nextOf (exec (.answerSent 2) withWaiting)).link 2).tx =
    some { function := 0xAE, tagByte := 0x50, code := .ok, results := [0, 0, 0, 0, 0] } := by decide +kernel
theorem test_linkBreak : ((nextOf (exec (.linkBreak 2) sending)).link 2).tx = none ∧
    ((nextOf (exec (.linkBreak 2) sending)).link 2).ignoring = true := by decide +kernel
/-- A break on the PRESETTER link aborts the current job and clears the unread flag (R88). -/
theorem test_linkBreak_presetter : let t := nextOf (exec (.linkBreak 0) (atPresetter .mounted .measuring))
    t.log.map (·.status) = [.aborted] ∧ t.unread = false := by decide +kernel
def ignoringLine : State := base.changeLink 2 fun k => { k with ignoring := true }
theorem test_breakLineReturnsToMark : ((nextOf (exec (.breakLineReturnsToMark 2) ignoringLine)).link 2).ignoring = false := by
  decide +kernel

def somePins : Pins :=
  { roleStraps := #v[0, 1, 1, 3], rateStraps := #v[0, 1, 2, 3], edge := false, guardLine := true, door := false
    zPhase := 0, xPhase := 0, aPhase := 0 }
/-- Two links strapped CRIB give one CRIB link and one DISABLED link (R200). -/
theorem test_start_roles : ((nextOf (exec (.start somePins) base)).link 2).role = .disabled := by decide +kernel
/-- A warm start makes an ALLOCATED record CHECK at UNKNOWN with TAG_LOST (R24). -/
theorem test_start_warm : ((nextOf (exec (.start somePins) (dispensing .released))).tool 5).lastFault = .tagLost := by
  decide +kernel
theorem test_mainPowerLoss : (nextOf (exec .mainPowerLoss base)).mainUp = false := by decide +kernel
def unpowered : State := { base with mainUp := false }
theorem test_backupSupplyLoss : (nextOf (exec .backupSupplyLoss unpowered)).lossMark = true := by decide +kernel

/-! ### Witnesses: for each clause of a statement that has hypotheses, a state and operands that meet them together -/

theorem witness_StepRunsTheFrontCommand :
    ({ base with pending := [.getTime cell, .getTime sup] } : State).pending = .getTime cell :: [.getTime sup] := rfl

/-- A state in which every timer runs. -/
def timed : State :=
  { engineIn (withJobs (dispensing (.fetched 0)) [mkJob 8 .preset (some 5) .current]) (.armed 60) with
    handoffs := [mkHandoff 2 5 (.offered 1)] }
theorem witness_EmptyQueuePassesOneSecond : timed.pending = [] ∧ timed.mainUp = true ∧ unpowered.pending = [] ∧
    unpowered.mainUp = false := by decide +kernel

theorem witness_PowerGatesEveryCommand : unpowered.mainUp = false ∧ (∀ p, Instr.getTime cell ≠ .start p) ∧
    Instr.getTime cell ≠ .backupSupplyLoss ∧ base.mainUp = true :=
  ⟨by decide +kernel, by simp, by simp, by decide +kernel⟩

def lostBackup : State := { unpowered with lossMark := true }
theorem witness_ColdStartClearsThePart : lostBackup.lossMark = true := rfl
theorem witness_ResetIsAColdStart : lostBackup.lossMark = true ∧ lostBackup.pending = [] := ⟨rfl, rfl⟩

/-- One record for each case of the warm start's table. -/
def beforeStart : State :=
  [(1, RecState.allocated, Location.crib 239, false), (2, .measuring, .presetter, true), (3, .ready, .crib 0, true),
    (4, .presetDue, .presetter, false), (5, .inMachine, .machine place, false), (6, .worn, .unknown, false)].foldl
    (fun s e => s.setTool e.1 { mkTool (BitVec.ofNat 64 e.1.val) e.2.1 e.2.2.1 with recalled := e.2.2.2 }) unpowered
theorem witness_WarmStartRepairsTheTable : beforeStart.lossMark = false ∧ (beforeStart.tool 1).state = .allocated ∧
    (beforeStart.tool 2).state = .measuring ∧ (beforeStart.tool 3).state = .ready ∧
    (beforeStart.tool 3).recalled = true ∧ (beforeStart.tool 4).state = .presetDue ∧
    (beforeStart.tool 4).recalled = false ∧ (beforeStart.tool 5).state = .inMachine ∧
    (beforeStart.tool 5).loc = .machine place ∧ (beforeStart.tool 6).state = .worn := by decide +kernel

theorem base_tool (k : RecNo) : base.tool k = ToolRecord.blank := by simp [base, State.reset, State.tool]

theorem witness_RegisterMakesAToolRecord : base.Takes sup 0x01 ∧ (511 : BitVec 16).toNat = (511 : RecNo).val ∧
    (77 : Tag) ≠ 0 ∧ (base.tool 511).state = .empty ∧
    (∀ k, (base.tool k).state ≠ .empty → (base.tool k).tag ≠ 77) := by
  refine ⟨takes_spec (by decide +kernel), by decide, by decide, by decide +kernel, fun k h => ?_⟩
  exact absurd (by rw [base_tool]; rfl) h

def wornTool : State := withTool 5 .worn (.crib 0)
def queuedTool : State := withJobs wornTool [mkJob 8 .verify (some 5) .waiting]
def fetchedFor (ph : OrderPhase) : State :=
  { withJobs (withTool 5 .ready (.crib 10)) [mkJob 8 .verify (some 5) (.fetching 1)] with
    orders := [mkOrder 1 (.presetter 8) 5 ph] }
def queuedDue : State := withJobs (withTool 5 .presetDue (.crib 10)) [mkJob 8 .preset (some 5) .waiting]
theorem witness_RetireEmptiesTheRecord : wornTool.Takes sup 0x02 ∧ (5 : BitVec 16).toNat = (5 : RecNo).val ∧
    (wornTool.tool 5).state = .worn ∧ wornTool.jobOf? 5 = none ∧
    (queuedTool.Takes sup 0x02 ∧ (queuedTool.tool 5).state = .worn ∧
      queuedTool.jobOf? 5 = some (mkJob 8 .verify (some 5) .waiting)) ∧
    ((fetchedFor .released).Takes sup 0x02 ∧ ((fetchedFor .released).tool 5).state = .ready ∧
      (fetchedFor .released).jobOf? 5 = some (mkJob 8 .verify (some 5) (.fetching 1)) ∧
      (fetchedFor .released).order? 1 = some (mkOrder 1 (.presetter 8) 5 .released)) := by
  and_intros <;> first | exact takes_spec (by decide +kernel) | decide +kernel

def held : State := withTool 0 .quarantine (.crib 0)
def wornOut : State := withTool 0 .worn (.crib 0)
theorem witness_ReleaseAndResetLifeReturnTools : (0 : BitVec 16).toNat = (0 : RecNo).val ∧ held.Takes sup 0x03 ∧
    (held.tool 0).state = .quarantine ∧ (held.tool 0).recalled = false ∧ held.jobOf? 0 = none ∧
    wornOut.Takes sup 0x04 ∧ (wornOut.tool 0).state = .worn := by
  and_intros <;> first | exact takes_spec (by decide +kernel) | decide +kernel

def lostTool : State := withTool 511 .check .unknown
/-- A state with one tool registered has no other tool in a crib pocket. -/
theorem elsewhere {n k : RecNo} {st : RecState} {loc l : Location} (h : k ≠ n) (hl : l.isCrib = true) :
    ((withTool n st loc).tool k).loc ≠ l := by
  rw [withTool, State.tool_setTool_ne _ _ h, base_tool]
  rintro rfl
  cases hl

theorem witness_ReconcilePlacesTheTool : lostTool.Takes sup 0x05 ∧ (511 : BitVec 16).toNat = (511 : RecNo).val ∧
    (lostTool.tool 511).state = .check ∧ (239 : Byte).toNat = (239 : Fin 240).val ∧
    (∀ k, k ≠ 511 → (lostTool.tool k).loc ≠ .crib 239) ∧ (2 : Byte).toNat = (2 : LinkId).val ∧
    (lostTool.link 2).role = .cell ∧ (63 : Byte).toNat ≤ 63 ∧ 1 ≤ (250 : Byte).toNat ∧ (250 : Byte).toNat ≤ 250 := by
  and_intros <;> first | exact takes_spec (by decide +kernel) | exact fun k h => elsewhere h rfl | decide +kernel

def recallable (st : RecState) (loc : Location) : State := { withTool 511 st loc with recalls := List.replicate 63 5 }
def onList : State := { base with recalls := [77] }
def onListUnmarked : State := { withTool 5 .ready (.crib 10) with recalls := [77] }
theorem witness_RecallsMarkTheRecord : (77 : Tag) ≠ 0 ∧
    (onList.Takes sup 0x06 ∧ (77 : Tag) ∈ onList.recalls ∧ onList.holder? 77 = none) ∧
    (onListUnmarked.Takes sup 0x06 ∧ (77 : Tag) ∈ onListUnmarked.recalls ∧ onListUnmarked.holder? 77 = some 5) ∧
    (base.Takes sup 0x06 ∧ (77 : Tag) ∉ base.recalls ∧ base.recalls.length < 64 ∧ base.holder? 77 = none) ∧
    ((recallable .worn .unknown).Takes sup 0x06 ∧ (77 : Tag) ∉ (recallable .worn .unknown).recalls ∧
      (recallable .worn .unknown).recalls.length < 64 ∧ (recallable .worn .unknown).holder? 77 = some 511 ∧
      ((recallable .worn .unknown).tool 511).recalled = false ∧ ((recallable .worn .unknown).tool 511).state = .worn) ∧
    ((recallable .ready (.crib 0)).Takes sup 0x06 ∧ (77 : Tag) ∉ (recallable .ready (.crib 0)).recalls ∧
      (recallable .ready (.crib 0)).recalls.length < 64 ∧ (recallable .ready (.crib 0)).holder? 77 = some 511 ∧
      (recallable .ready (.crib 0)).jobOf? 511 = none ∧ ((recallable .ready (.crib 0)).tool 511).state = .ready) ∧
    (onList.Takes sup 0x07 ∧ (77 : Tag) ∈ onList.recalls ∧ onList.holder? 77 = none) ∧
    ((recalledTool 5 .quarantine (.crib 10)).Takes sup 0x07 ∧
      (77 : Tag) ∈ (recalledTool 5 .quarantine (.crib 10)).recalls ∧
      (recalledTool 5 .quarantine (.crib 10)).holder? 77 = some 5 ∧
      ((recalledTool 5 .quarantine (.crib 10)).tool 5).recalled = true) ∧
    (wornTool.Takes sup 0x07 ∧ (77 : Tag) ∉ wornTool.recalls ∧ wornTool.holder? 77 = some 5) := by
  and_intros <;> first | exact takes_spec (by decide +kernel) | decide +kernel

theorem witness_AddRecallWithdrawsTheWork : (77 : Tag) ≠ 0 ∧
    (queuedDue.Takes sup 0x06 ∧ (77 : Tag) ∉ queuedDue.recalls ∧ queuedDue.recalls.length < 64 ∧
      queuedDue.holder? 77 = some 5 ∧ (queuedDue.tool 5).state = .presetDue ∧
      queuedDue.jobOf? 5 = some (mkJob 8 .preset (some 5) .waiting)) ∧
    ((fetchedFor .released).Takes sup 0x06 ∧ (77 : Tag) ∉ (fetchedFor .released).recalls ∧
      (fetchedFor .released).recalls.length < 64 ∧ (fetchedFor .released).holder? 77 = some 5 ∧
      ((fetchedFor .released).tool 5).state = .ready ∧
      (fetchedFor .released).jobOf? 5 = some (mkJob 8 .verify (some 5) (.fetching 1)) ∧
      (fetchedFor .released).order? 1 = some (mkOrder 1 (.presetter 8) 5 .released)) ∧
    ((atPresetter .offered .presetDue).Takes sup 0x06 ∧ (77 : Tag) ∉ (atPresetter .offered .presetDue).recalls ∧
      (atPresetter .offered .presetDue).recalls.length < 64 ∧ (atPresetter .offered .presetDue).holder? 77 = some 5 ∧
      ((atPresetter .offered .presetDue).tool 5).state = .presetDue ∧
      (atPresetter .offered .presetDue).jobOf? 5 = some (mkJob 8 .preset (some 5) .current) ∧
      (atPresetter .offered .presetDue).engine.phase = .offered) ∧
    ((fetchedFor (.fetched 0)).Takes sup 0x06 ∧ (77 : Tag) ∉ (fetchedFor (.fetched 0)).recalls ∧
      (fetchedFor (.fetched 0)).recalls.length < 64 ∧ (fetchedFor (.fetched 0)).holder? 77 = some 5 ∧
      ((fetchedFor (.fetched 0)).tool 5).state = .ready ∧ ((fetchedFor (.fetched 0)).tool 5).recalled = false ∧
      (fetchedFor (.fetched 0)).jobOf? 5 = some (mkJob 8 .verify (some 5) (.fetching 1)) ∧
      (fetchedFor (.fetched 0)).order? 1 = some (mkOrder 1 (.presetter 8) 5 (.fetched 0))) := by
  and_intros <;> first | exact takes_spec (by decide +kernel) | decide +kernel

theorem witness_AddRecallWithdrawsTheWork_allocated :
    ((dispensing .released).Takes sup 0x06 ∧ (77 : Tag) ∉ (dispensing .released).recalls ∧
      (dispensing .released).recalls.length < 64 ∧ (dispensing .released).holder? 77 = some 5 ∧
      ((dispensing .released).tool 5).state = .allocated ∧
      (dispensing .released).orderOf? 5 = some (mkOrder 407 (.cell 6) 5 .released) ∧
      (dispensing .released).ticket? 6 = some (mkTicket 6 (.dispensing 5))) ∧
    ((dispensing (.fetched 0)).Takes sup 0x06 ∧ (77 : Tag) ∉ (dispensing (.fetched 0)).recalls ∧
      (dispensing (.fetched 0)).recalls.length < 64 ∧ (dispensing (.fetched 0)).holder? 77 = some 5 ∧
      ((dispensing (.fetched 0)).tool 5).state = .allocated ∧ ((dispensing (.fetched 0)).tool 5).recalled = false ∧
      (dispensing (.fetched 0)).orderOf? 5 = some (mkOrder 407 (.cell 6) 5 (.fetched 0)) ∧
      (dispensing (.fetched 0)).ticket? 6 = some (mkTicket 6 (.dispensing 5))) := by
  and_intros <;> first | exact takes_spec (by decide +kernel) | decide +kernel

theorem witness_RecordQuestionsAnswerTheTable : base.Takes sup 0x08 ∧ (63 : Byte).toNat ≤ 63 ∧ 1 ≤ (29 : Byte).toNat ∧
    (29 : Byte).toNat ≤ 29 ∧ base.Takes cell 0x09 ∧ (511 : BitVec 16).toNat = (511 : RecNo).val ∧
    1 ≤ (1 : Byte).toNat ∧ (23 : Byte).toNat + (1 : Byte).toNat ≤ 24 := by
  and_intros <;> first | exact takes_spec (by decide +kernel) | decide +kernel

theorem witness_EditRequestsFillTheBuffer :
    (wornTool.Takes sup 0x0A ∧ (5 : BitVec 16).toNat = (5 : RecNo).val ∧ (0 : Byte).toNat ≤ (23 : Byte).toNat ∧
      (23 : Byte).toNat ≤ 23 ∧ (1 : Byte).toNat ≤ 1 ∧ (wornTool.tool 5).state ≠ .empty) ∧
    (editing.Takes sup 0x0B ∧
      (editing.link 3).edit = some { record := 5, tag := 77, first := 3, last := 3, mode := .always, pointer := 3
                                     entries := [], truncated := false, idleLeft := 5 } ∧
      readEntries (3 + 1 - 3) 3 [1, 9, 0, 1] = some ([{ field := 3, op := .set, value := [9, 0] }], [1])) ∧
    (edited.mainUp = true ∧ (edited.link 3).edit.isSome = true) := by
  and_intros <;> first | exact takes_spec (by decide +kernel) | decide +kernel

theorem witness_EditEntriesFollowTheFieldPointer :
    readEntries 1 3 [1, 9, 0, 1] = some ([{ field := 3, op := .set, value := [9, 0] }], [1]) ∧
    readEntries 2 4 [0, 2, 1, 7] =
      some ([{ field := 4, op := .skip, value := [] }, { field := 5, op := .setIfLower, value := [1, 7] }], []) ∧
    readEntries 1 5 [1, 2, 7] = none ∧ readEntries 1 3 [4] = none := by decide +kernel

def editedEdit : Edit :=
  { record := 5, tag := 77, first := 3, last := 3, mode := .always, pointer := 4
    entries := [{ field := 3, op := .set, value := [9, 0] }], truncated := false, idleLeft := 5 }
/-- The same edit naming the record's version. -/
def editedAtVersion : State :=
  edited.changeLink 3 fun k => { k with edit := some { editedEdit with mode := .ifVersion 3 } }
/-- An edit of the tag, which no role may write. -/
def refusableEdit : Edit :=
  { editedEdit with first := 1, last := 2, entries :=
      [{ field := 1, op := .skip, value := [] }, { field := 2, op := .set, value := [9, 0, 0, 0, 0, 0, 0, 0] }] }
def refusable : State := edited.changeLink 3 fun k => { k with edit := some refusableEdit }
theorem witness_CloseEditCommitsTheEdit :
    (edited.Takes sup 0x0C ∧ (edited.link 3).edit = some editedEdit ∧ (edited.tool 5).tag = editedEdit.tag ∧
      (∀ v, editedEdit.mode = .ifVersion v → (edited.tool 5).version = v) ∧
      (∀ x ∈ editedEdit.entries, x.op ≠ .skip →
        (edited.link 3).role = .supervisor ∧ x.field = 3 ∧ (edited.tool 5).state = .ready)) ∧
    (editedAtVersion.Takes sup 0x0C ∧
      (editedAtVersion.link 3).edit = some { editedEdit with mode := .ifVersion 3 } ∧
      (∀ v, CommitMode.ifVersion 3 = .ifVersion v → (editedAtVersion.tool 5).version = v)) ∧
    (refusable.Takes sup 0x0C ∧ (refusable.link 3).edit = some refusableEdit ∧
      (refusable.tool 5).tag = refusableEdit.tag ∧ refusableEdit.mode = .always ∧
      refusableEdit.entries = [{ field := 1, op := .skip, value := [] }] ++
        { field := 2, op := .set, value := [9, 0, 0, 0, 0, 0, 0, 0] } :: [] ∧
      ¬ ((2 = 16) ∨ (2 = 3 ∨ (7 ≤ 2 ∧ 2 ≤ 12) ∨ 2 = 15) ∨ (2 = 13 ∨ 2 = 14)) ∧ (refusable.link 3).role ≠ .cell) := by
  refine ⟨⟨takes_spec (by decide +kernel), by decide +kernel, by decide +kernel, (by intro v h; cases h),
    by decide +kernel⟩, ⟨takes_spec (by decide +kernel), by decide +kernel, ?_⟩, takes_spec (by decide +kernel),
    by decide +kernel, by decide +kernel, rfl, rfl, by decide, by decide +kernel⟩
  intro v h; cases h; decide +kernel

def cellEdit : Edit :=
  { record := 5, tag := 77, first := 16, last := 16, mode := .always, pointer := 17
    entries := [{ field := 16, op := .setIfLower, value := [0x90, 1, 0] }], truncated := false, idleLeft := 5 }
def cellEdited : State :=
  (withTool 5 .inMachine (.machine place)).changeLink 2 fun k => { k with edit := some cellEdit }
/-- 0x000190 is 400, the life remaining: the value at which the two clauses meet. -/
theorem witness_CellEditOnlyLowersLife : cellEdited.Takes cell 0x0C ∧ (cellEdited.link 2).role = .cell ∧
    (cellEdited.link 2).edit = some cellEdit ∧ (cellEdited.tool 5).tag = cellEdit.tag ∧ cellEdit.mode = .always ∧
    cellEdit.truncated = false ∧ (cellEdited.tool 5).inMachineOn 2 = true ∧
    (cellEdited.tool 5).lifeRem ≤ (cellEdited.tool 5).lifeInit ∧ (cellEdited.tool 5).lifeRem ≤ 0x90 + 256 * 1 ∧
    0x8F + 256 * 1 < (cellEdited.tool 5).lifeRem := by
  and_intros <;> first | exact takes_spec (by decide +kernel) | decide +kernel

theorem witness_EditsAreDiscardedWhole : edited.Takes sup 0x0D ∧ (edited.link 3).edit = some editedEdit ∧
    base.Takes sup 0x0D ∧ (base.link 3).edit = none := by
  and_intros <;> first | exact takes_spec (by decide +kernel) | decide +kernel

theorem witness_LegalStepsCount : base.mainUp = true ∧ (1 : Fin 4) = base.lines.zPhase + 1 ∧
    base.lines.zPhase = (3 : Fin 4) + 1 ∧ (1 : Fin 4) = base.lines.xPhase + 1 ∧ base.lines.xPhase = (3 : Fin 4) + 1 ∧
    (1 : Fin 4) = base.lines.aPhase + 1 ∧ base.lines.aPhase = (3 : Fin 4) + 1 ∧ (0 : Fin 4) = base.lines.phase .a := by
  decide +kernel

theorem witness_IllegalStepsGlitch : base.mainUp = true ∧ (2 : Fin 4) = base.lines.phase .x + 2 ∧
    base.engine.phase = .idle ∧ (atPresetter .stationDone .measuring).mainUp = true ∧
    (2 : Fin 4) = (atPresetter .stationDone .measuring).lines.phase .x + 2 ∧
    (atPresetter .stationDone .measuring).engine.phase = .stationDone ∧
    (atPresetter (.armed 60) .measuring).engine.phase = .armed 60 := by decide +kernel

theorem notArmed {p q : EnginePhase} (h : p = q) (hq : q.isArmed = false) (left : Nat) : p ≠ .armed left := by
  subst h; rintro rfl; cases hq

def slipping : State :=
  { atPresetter (.armed 60) .measuring with capture := { base.capture with span := -4093, checkPending := false } }
/-- A span of 4,094 passes and one of 4,093 slips (R44). -/
theorem witness_IndexPulseChecksTheRevolution : base.mainUp = true ∧ (∀ left, base.engine.phase ≠ .armed left) ∧
    slipping.mainUp = true ∧ slipping.capture.checkPending = false ∧
    ¬ (slipping.settings.countsPerRev ≤ slipping.capture.span.natAbs + 2) ∧ slipping.engine.phase = .armed 60 :=
  ⟨by decide +kernel, notArmed rfl rfl, by decide +kernel⟩

def noDwell : State := { base with settings := { base.settings with dwell := 0 } }
def noDeadTime : State := { heldActive with settings := { base.settings with deadTime := 0 } }
def activeLine (q : Qualifier) : State :=
  { base with lines := { base.lines with edgeLevel := true }, capture := { base.capture with qualifier := q } }
def guardOpenActive : State := { base with lines := { base.lines with guardLevel := true, edgeLevel := true } }
theorem witness_LinesMoveTheQualifier : base.mainUp = true ∧
    (base.edgeIsActive = false ∧ base.capture.qualifier = .listening ∧ base.settings.dwell ≠ 0) ∧
    (noDwell.edgeIsActive = false ∧ noDwell.capture.qualifier = .listening ∧ noDwell.settings.dwell = 0) ∧
    ((inState .deadTime).edgeIsActive = false ∧ (inState .deadTime).capture.qualifier = .deadTime) ∧
    ((inState .guarded).edgeIsActive = false ∧ (inState .guarded).capture.qualifier = .guarded) ∧
    ((activeLine (.dwelling latch)).edgeIsActive = true ∧
      (activeLine (.dwelling latch)).capture.qualifier = .dwelling latch) ∧
    (heldActive.edgeIsActive = true ∧ heldActive.capture.qualifier = .heldActive ∧ heldActive.settings.deadTime ≠ 0) ∧
    (noDeadTime.edgeIsActive = true ∧ noDeadTime.capture.qualifier = .heldActive ∧ noDeadTime.settings.deadTime = 0) ∧
    ((activeLine .guarded).edgeIsActive = true ∧ (activeLine .guarded).capture.qualifier = .guarded) ∧
    base.guardIsOpen = false ∧ (guardOpenActive.guardIsOpen = true ∧ guardOpenActive.edgeIsActive = true) ∧
    (guardOpen.guardIsOpen = true ∧ guardOpen.edgeIsActive = false) := by decide +kernel

def armedLatch (a : Nat) : Latch := { sample := { z := 5, x := 6, a := a }, station := some { job := 8, index := 0 } }
def sampling (a : Nat) (b : StationBuffer) : State :=
  { atPresetter (.armed 60) .measuring with
    capture := { base.capture with qualifier := .dwelling (armedLatch a), buffer := b } }
def bufferOf (n : Nat) : StationBuffer :=
  { station := some { job := 8, index := 0 }, samples := List.replicate n { z := 0, x := 0, a := 100 }
    angle := if n = 0 then none else some 100, glitch := false, rejected := false }
/-- The tolerance is 16 counts: 116 is within it and 117 is not; 4,096 counts make a revolution (R53). -/
theorem witness_DwellEndQualifiesTheSample :
    ((inState (.dwelling latch)).mainUp = true ∧ (inState (.dwelling latch)).capture.qualifier = .dwelling latch ∧
      latch.station = none) ∧ (∀ left, (inState (.dwelling latch)).engine.phase ≠ .armed left) ∧
    ((sampling 117 (bufferOf 1)).mainUp = true ∧
      (sampling 117 (bufferOf 1)).capture.qualifier = .dwelling (armedLatch 117) ∧
      (sampling 117 (bufferOf 1)).engine.phase = .armed 60 ∧
      (sampling 117 (bufferOf 1)).currentJob? = some (mkJob 8 .preset (some 5) .current) ∧
      (armedLatch 117).station = some { job := 8, index := (sampling 117 (bufferOf 1)).engine.nextStation } ∧
      (bufferOf 1).station = (armedLatch 117).station ∧ (bufferOf 1).angle = some 100 ∧
      (sampling 117 (bufferOf 1)).settings.angleTol < ((117 : Int) - 100).natAbs) ∧
    ((bufferOf 0).angle = none ∧ (bufferOf 0).samples.length + 1 < (mkJob 8 .preset (some 5) .current).plan.samples) ∧
    (¬ (sampling 116 (bufferOf 1)).settings.angleTol < ((116 : Int) - 100).natAbs ∧
      (mkJob 8 .preset (some 5) .current).plan.samples ≤ (bufferOf 1).samples.length + 1 ∧
      (sampling 116 (bufferOf 1)).engine.nextStation + 1 < (mkJob 8 .preset (some 5) .current).plan.stations) :=
  ⟨by decide +kernel, notArmed rfl rfl, by decide +kernel, by decide +kernel, by decide +kernel⟩

/-- The engine with a number of stations done. -/
def afterStations (n : Nat) (s : State) : State := { s with engine := { s.engine with nextStation := n } }
def lastStation : StationId := { job := 8, index := 1 }
def lastSampling (j : Job) : State :=
  let s := afterStations 1 (engineIn (withJobs (withTool 5 .measuring .presetter) [j]) (.armed 60))
  { s with capture := { base.capture with
      qualifier := .dwelling { sample := { z := 5, x := 6, a := 100 }, station := some lastStation }
      buffer := { bufferOf 1 with station := some lastStation } } }
/-- A latch of station 1 while station 0 is armed; and the plan's last station, for a record and for the gauge. -/
theorem witness_DwellEndQualifiesTheSample_stations :
    ((sampling 100 (bufferOf 1)).currentJob? = some (mkJob 8 .preset (some 5) .current) ∧
      some lastStation ≠ some { job := 8, index := (sampling 100 (bufferOf 1)).engine.nextStation }) ∧
    ((lastSampling (mkJob 8 .preset (some 5) .current)).mainUp = true ∧
      (lastSampling (mkJob 8 .preset (some 5) .current)).engine.phase = .armed 60 ∧
      (lastSampling (mkJob 8 .preset (some 5) .current)).currentJob? = some (mkJob 8 .preset (some 5) .current) ∧
      some lastStation =
        some { job := 8, index := (lastSampling (mkJob 8 .preset (some 5) .current)).engine.nextStation } ∧
      (lastSampling (mkJob 8 .preset (some 5) .current)).capture.buffer.station = some lastStation ∧
      (mkJob 8 .preset (some 5) .current).plan.samples ≤ (bufferOf 1).samples.length + 1 ∧
      (mkJob 8 .preset (some 5) .current).plan.stations ≤ 1 + 1) ∧
    ((lastSampling (mkJob 8 .calibrate none .current)).currentJob? = some (mkJob 8 .calibrate none .current) ∧
      (mkJob 8 .calibrate none .current).record = none) := by decide +kernel

theorem witness_ReadAxesAnswersTheCounters : base.Takes pre 0x0E := takes_spec (by decide +kernel)

theorem witness_CountersMoveOnlyByEncoders : exec .indexPulse base = .next (nextOf (exec .indexPulse base)) ∧
    (∀ e p, Instr.indexPulse ≠ .encoderStep e p) ∧ (∀ p, Instr.indexPulse ≠ .start p) :=
  ⟨rfl, by simp, by simp⟩

def gaugeSet : State := { base with reference := { base.reference with gaugeTag := 900 } }
theorem witness_NewEntriesTakeFreshNumbers : 1 ≤ 65535 ∧ [65535].length < 65535 ∧ 65535 ∉ [1] ∧
    1 ≤ (withJobs base []).nextJob ∧ (withJobs base []).nextJob ≤ 65535 ∧ (withJobs base []).jobs.length < 65535 ∧
    (1 ≤ gaugeSet.nextJob ∧ gaugeSet.nextJob ≤ 65535 ∧ gaugeSet.settings.autoCal = 1 ∧
      gaugeSet.reference.present = false ∧ gaugeSet.jobs = [] ∧ gaugeSet.reference.gaugeTag ≠ 0 ∧
      gaugeSet.reference.timePending = false) ∧
    (1 ≤ base.nextJob ∧ base.nextJob ≤ 65535 ∧ base.reference.gaugeTag = 0) := by
  decide +kernel

def fullButOne : State := withJobs (withTool 5 .ready (.crib 10)) (List.replicate 15 (mkJob 3 .preset (some 9) .waiting))
theorem witness_MeasureEnqueuesAJob : (1 : Byte).toNat ≤ 1 ∧
    (fullButOne.Takes sup 0x0F ∧ fullButOne.jobs.length < 16 ∧ (5 : BitVec 16).toNat = (5 : RecNo).val ∧
      (fullButOne.tool 5).recalled = false ∧ fullButOne.jobOf? 5 = none ∧ (fullButOne.tool 5).loc = .crib 10 ∧
      (fullButOne.tool 5).state = .ready) ∧
    ((withTool 5 .quarantine .presetter).Takes pre 0x0F ∧ (withTool 5 .quarantine .presetter).jobs.length < 16 ∧
      (withTool 5 .quarantine .presetter).jobOf? 5 = none ∧ (withTool 5 .quarantine .presetter).jobOf? 5 = none ∧
      ((withTool 5 .quarantine .presetter).tool 5).loc = .presetter ∧
      ((withTool 5 .quarantine .presetter).tool 5).recalled = false ∧
      ((withTool 5 .quarantine .presetter).tool 5).state = .quarantine) ∧
    (gaugeSet.Takes sup 0x0F ∧ gaugeSet.jobs.length < 16 ∧ gaugeSet.hasCalibrate = false ∧
      gaugeSet.reference.gaugeTag ≠ 0) := by
  and_intros <;> first | exact takes_spec (by decide +kernel) | decide +kernel

theorem witness_CancelJobRemovesTheJob :
    (queuedTool.Takes sup 0x10 ∧ queuedTool.job? (8 : BitVec 16).toNat = some (mkJob 8 .verify (some 5) .waiting)) ∧
    ((fetchedFor .released).Takes sup 0x10 ∧
      (fetchedFor .released).job? (8 : BitVec 16).toNat = some (mkJob 8 .verify (some 5) (.fetching 1)) ∧
      (fetchedFor .released).order? 1 = some (mkOrder 1 (.presetter 8) 5 .released)) ∧
    ((atPresetter .offered .presetDue).Takes sup 0x10 ∧
      (atPresetter .offered .presetDue).job? (8 : BitVec 16).toNat = some (mkJob 8 .preset (some 5) .current) ∧
      (atPresetter .offered .presetDue).engine.phase = .offered) ∧
    ((fetchedFor (.fetched 0)).Takes sup 0x10 ∧
      (fetchedFor (.fetched 0)).job? (8 : BitVec 16).toNat = some (mkJob 8 .verify (some 5) (.fetching 1)) ∧
      (fetchedFor (.fetched 0)).order? 1 = some (mkOrder 1 (.presetter 8) 5 (.fetched 0))) ∧
    ((atPresetter .mounted .measuring).Takes sup 0x10 ∧
      (atPresetter .mounted .measuring).job? (8 : BitVec 16).toNat = some (mkJob 8 .preset (some 5) .current) ∧
      (atPresetter .mounted .measuring).engine.phase ≠ .offered) := by
  and_intros <;> first | exact takes_spec (by decide +kernel) | decide +kernel

def claiming : State := withJobs (withTool 5 .ready (.crib 10)) [mkJob 8 .preset (some 5) .waiting]
def fetchesFull : State := withJobs (withTool 5 .ready (.crib 10))
  [mkJob 8 .preset (some 5) .waiting, mkJob 2 .preset (some 1) (.fetching 1), mkJob 3 .preset (some 2) (.fetching 2)]
def offerable : State := withJobs (withTool 5 .ready .presetter)
  [mkJob 4 .preset (some 1) .waiting, mkJob 8 .preset (some 5) .waiting, mkJob 9 .calibrate none .waiting]
theorem witness_CancelJobRemovesTheJob_rounds : (base.Takes sup 0x10 ∧ base.job? (8 : BitVec 16).toNat = none) ∧
    (claiming.job? 8 = some (mkJob 8 .preset (some 5) .waiting) ∧ (claiming.tool 5).loc = .crib 10 ∧
      claiming.orders.length < 16 ∧ claiming.jobs.countP (fun j => j.phase.isFetching) < 2 ∧
      (claiming.jobs.map (·.number)).Nodup) ∧
    (fetchesFull.job? 8 = some (mkJob 8 .preset (some 5) .waiting) ∧
      ¬ fetchesFull.jobs.countP (fun j => j.phase.isFetching) < 2) ∧
    (atPresetter .offered .presetDue).engine.phase ≠ .idle ∧
    (offerable.engine.phase = .idle ∧ offerable.jobs = [mkJob 4 .preset (some 1) .waiting] ++
        mkJob 8 .preset (some 5) .waiting :: [mkJob 9 .calibrate none .waiting] ∧
      (offerable.tool 1).loc ≠ .presetter ∧ (offerable.tool 5).loc = .presetter) := by
  and_intros <;> first | exact takes_spec (by decide +kernel) | decide +kernel

theorem witness_JobQuestionsAnswerTheEngine : queuedTool.Takes sup 0x11 ∧
    ((atPresetter .mounted .measuring).Takes pre 0x12 ∧
      (atPresetter .mounted .measuring).currentJob? = some (mkJob 8 .preset (some 5) .current) ∧
      (atPresetter .mounted .measuring).engine.phase ≠ .idle) ∧
    (base.Takes pre 0x12 ∧ base.engine.phase = .idle) ∧
    (logged.Takes sup 0x17 ∧ (31 : Byte).toNat ≤ 31 ∧ 1 ≤ (6 : Byte).toNat ∧ (6 : Byte).toNat ≤ 6) ∧
    (logged.Takes pre 0x16 ∧ logged.log.getLast? = some (entryOf 8)) := by
  and_intros <;> first | exact takes_spec (by decide +kernel) | decide +kernel

def calibrating (ph : EnginePhase) : State := engineIn (withJobs gaugeSet [mkJob 8 .calibrate none .current]) ph
theorem witness_MountMakesTheRecordMeasuring : (8 : BitVec 16).toNat = 8 ∧ (77 : Tag) ≠ 0 ∧ (78 : Tag) ≠ 0 ∧
    ((atPresetter .offered .ready).Takes pre 0x13 ∧
      (atPresetter .offered .ready).currentJob? = some (mkJob 8 .preset (some 5) .current) ∧
      (atPresetter .offered .ready).engine.phase = .offered ∧ ((atPresetter .offered .ready).tool 5).tag = 77 ∧
      ((atPresetter .offered .ready).tool 5).state ≠ .measuring ∧ ((atPresetter .offered .ready).tool 5).tag ≠ 78) ∧
    ((calibrating .offered).Takes pre 0x13 ∧
      (calibrating .offered).currentJob? = some (mkJob 8 .calibrate none .current) ∧
      (calibrating .offered).engine.phase = .offered ∧ (900 : Tag) ≠ 0 ∧
      (calibrating .offered).reference.gaugeTag = 900) := by
  and_intros <;> first | exact takes_spec (by decide +kernel) | decide +kernel

theorem witness_ArmStationClearsTheBuffer : (8 : BitVec 16).toNat = (mkJob 8 .preset (some 5) .current).number ∧
    ((atPresetter .mounted .measuring).Takes pre 0x14 ∧
      (atPresetter .mounted .measuring).currentJob? = some (mkJob 8 .preset (some 5) .current) ∧
      (atPresetter .mounted .measuring).engine.phase = .mounted ∧
      (0 : Byte).toNat = (atPresetter .mounted .measuring).engine.nextStation) ∧
    ((atPresetter .stationDone .measuring).Takes pre 0x14 ∧
      (atPresetter .stationDone .measuring).engine.phase = .stationDone) := by
  and_intros <;> first | exact takes_spec (by decide +kernel) | decide +kernel

def measuringRecalled : State :=
  let s := atPresetter .mounted .measuring
  s.setTool 5 { s.tool 5 with recalled := true }
theorem witness_AbortJobEndsTheJob : (8 : BitVec 16).toNat = (mkJob 8 .preset (some 5) .current).number ∧
    ((atPresetter .mounted .measuring).Takes sup 0x15 ∧
      (atPresetter .mounted .measuring).currentJob? = some (mkJob 8 .preset (some 5) .current) ∧
      (atPresetter .mounted .measuring).engine.phase ≠ .idle ∧
      (mkJob 8 .preset (some 5) .current).prior ≠ some .measuring ∧
      ((atPresetter .mounted .measuring).tool 5).state = .measuring) ∧
    (measuringRecalled.Takes sup 0x15 ∧
      measuringRecalled.currentJob? = some (mkJob 8 .preset (some 5) .current) ∧
      measuringRecalled.engine.phase ≠ .idle ∧ (measuringRecalled.tool 5).recalled = true) ∧
    ((calibrating .mounted).Takes sup 0x15 ∧
      (calibrating .mounted).currentJob? = some (mkJob 8 .calibrate none .current) ∧
      (calibrating .mounted).engine.phase ≠ .idle) ∧
    (base.Takes sup 0x15 ∧ base.engine.phase = .idle) ∧
    ((atPresetter .mounted .measuring).Takes sup 0x15 ∧ (9 : BitVec 16).toNat ≠ 8) ∧
    ((mkJob 8 .verify (some 5) .current).phase = .current ∧
      (mkJob 8 .verify (some 5) .current).prior = some .ready ∧ RecState.ready ≠ .measuring) := by
  and_intros <;> first | exact takes_spec (by decide +kernel) | decide +kernel

def sampled : State := { atPresetter (.armed 0) .measuring with capture := { base.capture with buffer := bufferOf 1 } }
theorem witness_StationTimeoutEndsTheStation :
    (sampled.mainUp = true ∧ sampled.currentJob? = some (mkJob 8 .preset (some 5) .current) ∧
      sampled.engine.phase = .armed 0 ∧ sampled.capture.buffer.samples ≠ [] ∧
      sampled.engine.nextStation + 1 < (mkJob 8 .preset (some 5) .current).plan.stations) ∧
    ((afterStations 1 sampled).engine.phase = .armed 0 ∧ (afterStations 1 sampled).capture.buffer.samples ≠ [] ∧
      (mkJob 8 .preset (some 5) .current).plan.stations ≤ (afterStations 1 sampled).engine.nextStation + 1) ∧
    ((lastSampling (mkJob 8 .calibrate none .current)).engine.phase = .armed 60 ∧
      (lastSampling (mkJob 8 .calibrate none .current)).currentJob? = some (mkJob 8 .calibrate none .current) ∧
      (lastSampling (mkJob 8 .calibrate none .current)).capture.buffer.samples ≠ [] ∧
      (mkJob 8 .calibrate none .current).plan.stations ≤
        (lastSampling (mkJob 8 .calibrate none .current)).engine.nextStation + 1) ∧
    ((atPresetter (.armed 60) .measuring).mainUp = true ∧
      (atPresetter (.armed 60) .measuring).currentJob? = some (mkJob 8 .preset (some 5) .current) ∧
      (atPresetter (.armed 60) .measuring).engine.phase = .armed 60 ∧
      (atPresetter (.armed 60) .measuring).capture.buffer.samples = []) := by decide +kernel

theorem witness_StationMeanRoundsHalfUp : [(-1 : BitVec 32), -2] ≠ [] := by decide
theorem witness_ConversionRoundsHalfAway : 0 ≤ (1 : Int) * (50 : Nat) ∧ (-1 : Int) * (50 : Nat) ≤ 0 ∧
    2 * (100 * convert 1 50 - 1 * (50 : Nat)).natAbs = 100 := by decide

/-- One complete job against a valid reference, with values a given number of counts above the reference's. -/
def computing (above : BitVec 32) : State :=
  let s := atPresetter .stationDone .measuring
  { s with
    engine := { s.engine with results :=
      [{ zs := [above], xs := [0], angle := some 0 }, { zs := [above], xs := [0], angle := some 2048 }] }
    hall := { count := 100, set := true }
    reference := { s.reference with present := true, lRef := 2260000, rRef := 250000, validUntil := some 101 } }
def presetJob : Job := mkJob 8 .preset (some 5) .current
theorem witness_PresetResultReachesTheRecord : presetJob.kind = .preset ∧ presetJob.record = some 5 ∧
    presetJob.phase = .current ∧ (mkJob 8 .verify (some 5) .current).prior = some .ready ∧ RecState.ready ≠ .measuring ∧
    ((computing 2).stale = false ∧ ((computing 2).tool 5).state = .measuring ∧
      ((computing 2).tool 5).loc = .presetter ∧
      (computing 2).engine.results.map (fun q => stationMean q.zs) = [2, 2] ∧
      (computing 2).engine.results.map (fun q => stationMean q.xs) = [0, 0] ∧
      judgeStatus false (measured (computing 2).reference (computing 2).settings .both (computing 2).engine.results)
        presetJob.origin ((computing 2).tool 5) = .good) ∧
    ((computing 400).stale = false ∧ ((computing 400).tool 5).state = .measuring ∧
      judgeStatus false (measured (computing 400).reference (computing 400).settings .both
        (computing 400).engine.results) presetJob.origin ((computing 400).tool 5) = .outTol) ∧
    ({ computing 2 with hall := { count := 101, set := true } } : State).stale = true := by decide +kernel

/-- A calibration against a reference at Z 0: 200 counts is the drift limit's last accepted value (R116). -/
def calibrated (present : Bool) (z : BitVec 32) : State :=
  let s := calibrating .stationDone
  { s with
    engine := { s.engine with results := [{ zs := [z], xs := [0], angle := some 0 }] }
    reference := { s.reference with present := present } }
theorem witness_CalibrationUpdatesTheReference : (mkJob 8 .calibrate none .current).kind = .calibrate ∧
    (mkJob 8 .calibrate none .current).record = none ∧ (mkJob 8 .calibrate none .current).phase = .current ∧
    (calibrated true 201).engine.results.map (fun q => stationMean q.zs) = [201] ∧
    (calibrated true 201).engine.results.map (fun q => stationMean q.xs) = [0] ∧
    ((calibrated true 201).reference.present = true ∧
      (calibrated true 201).settings.driftLimit <
        (zPeak (calibrated true 201).engine.results - (calibrated true 201).reference.zRef).natAbs) ∧
    ((calibrated true 200).reference.present = true ∧
      ¬ (calibrated true 200).settings.driftLimit <
        (zPeak (calibrated true 200).engine.results - (calibrated true 200).reference.zRef).natAbs ∧
      ¬ (calibrated true 200).settings.driftLimit <
        (xPeak (calibrated true 200).engine.results - (calibrated true 200).reference.xRef).natAbs) ∧
    (calibrated false 201).reference.present = false := by decide +kernel

theorem witness_ReferenceRequestsReachTheRecord : base.Takes sup 0x18 ∧ base.hasCalibrate = false ∧
    (calibrating .offered).Takes sup 0x18 ∧ (calibrating .offered).hasCalibrate = true ∧ base.Takes pre 0x19 ∧
    base.Takes sup 0x1A := by
  and_intros <;> first | exact takes_spec (by decide +kernel) | decide +kernel

def clockAt (n : Nat) : State :=
  { base with hall := { count := n, set := true }, reference := { base.reference with present := true, validUntil := some 8 } }
theorem witness_HallTimeDatesTheReference : base.Takes sup 0x2D ∧ base.Takes cell 0x2E ∧ base.mainUp = true ∧
    ((clockAt 4294967294).mainUp = true ∧ (clockAt 4294967294).hall.set = true ∧
      (clockAt 4294967294).hall.count < 4294967295 ∧
      (clockAt 4294967294).reference.validUntil ≠ some ((clockAt 4294967294).hall.count + 1)) ∧
    ((clockAt 7).mainUp = true ∧ (clockAt 7).hall.set = true ∧ (clockAt 7).hall.count < 4294967295 ∧
      (clockAt 7).reference.validUntil = some ((clockAt 7).hall.count + 1)) ∧
    ((clockAt 4294967295).mainUp = true ∧ 4294967295 ≤ (clockAt 4294967295).hall.count) ∧
    (pendingRef.mainUp = true ∧ pendingRef.reference.timePending = true ∧ base.reference.timePending = false) := by
  and_intros <;> first | exact takes_spec (by decide +kernel) | decide +kernel

def ticketIn (ph : TicketPhase) : State := { base with tickets := [mkTicket 6 ph] }
theorem witness_TicketsAreMadeAndWithdrawn :
    (base.Takes cell 0x1B ∧ (63 : Byte).toNat ≤ 63 ∧ 1 ≤ (250 : Byte).toNat ∧ (250 : Byte).toNat ≤ 250 ∧
      1 ≤ (4095 : BitVec 16).toNat ∧ (4095 : BitVec 16).toNat ≤ 4095 ∧ (1 : Byte).toNat ≤ 1 ∧
      ¬ (∃ k ∈ base.tickets, k.link = 2 ∧ k.machine = (63 : Byte).toNat ∧ k.machinePocket = (250 : Byte).toNat) ∧
      base.tickets.length < 32) ∧
    ((ticketIn .waiting).Takes cell 0x1B ∧
      ∃ k ∈ (ticketIn .waiting).tickets, k.link = 2 ∧ k.machine = (4 : Byte).toNat ∧
        k.machinePocket = (9 : Byte).toNat) ∧
    ((ticketIn .failed).Takes cell 0x1C ∧
      (ticketIn .failed).ticket? (6 : BitVec 16).toNat = some (mkTicket 6 .failed) ∧ (mkTicket 6 .failed).link = 2) ∧
    ((ticketIn .waiting).Takes cell 0x1C ∧
      (ticketIn .waiting).ticket? (6 : BitVec 16).toNat = some (mkTicket 6 .waiting)) ∧
    ((dispensing .released).Takes cell 0x1C ∧
      (dispensing .released).ticket? (6 : BitVec 16).toNat = some (mkTicket 6 (.dispensing 5))) := by
  and_intros <;> first | exact takes_spec (by decide +kernel) | decide +kernel

/-- A waiting ticket of class 5 for 100 units of life, with one tool registered. -/
def passing (st : RecState) (lifeRem : Nat) (orders : List Order) : State :=
  { base.setTool 5 { mkTool 77 st (.crib 10) with lifeRem := lifeRem } with
    tickets := [mkTicket 6 .waiting], orders := orders }
theorem passing_only {st : RecState} {n : Nat} {os : List Order} {m : RecNo} (h : ((passing st n os).tool m).state ≠ .empty) :
    m = 5 := by
  by_contra hm
  exact h (by
    show ((base.setTool 5 _).tool m).state = .empty
    rw [State.tool_setTool_ne _ _ hm, base_tool]; rfl)

/-- A candidate of the ticket, and a tool the ticket may escalate, as the statement spells them. -/
def candidateFor (s : State) (k : Ticket) (m : RecNo) : Prop :=
  (s.tool m).state = .ready ∧ (∃ p, (s.tool m).loc = .crib p) ∧ (s.tool m).cls = k.cls ∧
    (s.tool m).recalled = false ∧ s.jobOf? m = none ∧ k.minLife ≤ (s.tool m).lifeRem
def dueFor (s : State) (k : Ticket) (m : RecNo) : Prop :=
  (s.tool m).state = .presetDue ∧ (s.tool m).cls = k.cls ∧ (s.tool m).recalled = false ∧
    k.minLife ≤ (s.tool m).lifeRem ∧ (∀ j, s.jobOf? m = some j → j.kind = .preset) ∧
    ∀ w ∈ s.tickets, w.number ≠ 6 → w.escalated ≠ some m

theorem passing_candidate (os : List Order) : candidateFor (passing .ready 100 os) (mkTicket 6 .waiting) 5 :=
  ⟨rfl, ⟨10, rfl⟩, rfl, rfl, rfl, Nat.le_refl _⟩
theorem passing_due : dueFor (passing .presetDue 100 []) (mkTicket 6 .waiting) 5 := by
  refine ⟨rfl, rfl, rfl, Nat.le_refl _, ?_, ?_⟩
  · rintro j ⟨⟩
  · rintro w (_ | ⟨_, ⟨⟩⟩) h; exact absurd rfl h

theorem witness_PassServesTheLeastLife_serves :
    (passing .ready 100 []).ticket? 6 = some (mkTicket 6 .waiting) ∧ (mkTicket 6 .waiting).phase = .waiting ∧
    candidateFor (passing .ready 100 []) (mkTicket 6 .waiting) 5 ∧ ((passing .ready 100 []).tool 5).loc = .crib 10 ∧
    (∀ m, candidateFor (passing .ready 100 []) (mkTicket 6 .waiting) m →
      ((passing .ready 100 []).tool 5).lifeRem < ((passing .ready 100 []).tool m).lifeRem ∨
        (((passing .ready 100 []).tool 5).lifeRem = ((passing .ready 100 []).tool m).lifeRem ∧ (5 : RecNo) ≤ m)) ∧
    (passing .ready 100 []).tickets.countP (fun w => w.phase.isDispensing) + (passing .ready 100 []).handoffs.length < 64 ∧
    min ((passing .ready 100 []).jobs.countP fun j => j.urgent && (passing .ready 100 []).holdsClaim j)
      (2 - (passing .ready 100 []).fetchingCount) < 16 - (passing .ready 100 []).orders.length := by
  refine ⟨by decide +kernel, rfl, passing_candidate _, by decide +kernel, fun m h => ?_, by decide +kernel,
    by decide +kernel⟩
  obtain rfl := passing_only (m := m) (by rw [h.1]; simp)
  exact .inr ⟨rfl, Nat.le_refl _⟩

def sixteenOrders : List Order := (List.range 16).map fun i => mkOrder (i + 1) (.cell 9) 7 .released
theorem witness_PassServesTheLeastLife_holds :
    (passing .ready 100 sixteenOrders).ticket? 6 = some (mkTicket 6 .waiting) ∧
    candidateFor (passing .ready 100 sixteenOrders) (mkTicket 6 .waiting) 5 ∧
    ¬ (min ((passing .ready 100 sixteenOrders).jobs.countP fun j =>
        j.urgent && (passing .ready 100 sixteenOrders).holdsClaim j)
      (2 - (passing .ready 100 sixteenOrders).fetchingCount) < 16 - (passing .ready 100 sixteenOrders).orders.length) :=
  ⟨by decide +kernel, passing_candidate _, by decide +kernel⟩

theorem witness_PassServesTheLeastLife_escalates :
    (passing .presetDue 100 []).ticket? 6 = some (mkTicket 6 .waiting) ∧ (mkTicket 6 .waiting).escalated = none ∧
    (∀ m, ¬ candidateFor (passing .presetDue 100 []) (mkTicket 6 .waiting) m) ∧
    dueFor (passing .presetDue 100 []) (mkTicket 6 .waiting) 5 ∧
    (∀ m, dueFor (passing .presetDue 100 []) (mkTicket 6 .waiting) m →
      ((passing .presetDue 100 []).tool m).lifeRem < ((passing .presetDue 100 []).tool 5).lifeRem ∨
        (((passing .presetDue 100 []).tool 5).lifeRem = ((passing .presetDue 100 []).tool m).lifeRem ∧
          (5 : RecNo) ≤ m)) ∧
    (passing .presetDue 100 []).jobOf? 5 = none ∧ (passing .presetDue 100 []).jobs.length < 16 := by
  refine ⟨by decide +kernel, rfl, fun m h => ?_, passing_due, fun m h => ?_, by decide +kernel, by decide +kernel⟩
  · obtain rfl := passing_only (m := m) (by rw [h.1]; simp)
    cases h.1
  · obtain rfl := passing_only (m := m) (by rw [h.1]; simp)
    exact .inr ⟨rfl, Nat.le_refl _⟩

theorem witness_PassServesTheLeastLife_starves :
    (passing .presetDue 99 []).ticket? 6 = some (mkTicket 6 .waiting) ∧
    (∀ m, ¬ candidateFor (passing .presetDue 99 []) (mkTicket 6 .waiting) m) ∧
    (∀ m, ¬ dueFor (passing .presetDue 99 []) (mkTicket 6 .waiting) m) := by
  refine ⟨by decide +kernel, fun m h => ?_, fun m h => ?_⟩
  · obtain rfl := passing_only (m := m) (by rw [h.1]; simp)
    cases h.1
  · obtain rfl := passing_only (m := m) (by rw [h.1]; simp)
    exact absurd h.2.2.2.1 (by decide +kernel)

/-- The pass's other cases: a queued PRESET job in the normal section, a queue of 16, an escalated record that is alive
and one that is not, and a ticket that is passed over. -/
def passingQueued (js : List Job) : State := { passing .presetDue 100 [] with jobs := js }
def passingEscalated (st : RecState) : State :=
  { passing st 99 [] with tickets := [{ mkTicket 6 .waiting with escalated := some 5 }] }
theorem witness_PassServesTheLeastLife_others :
    ((passingQueued [mkJob 8 .preset (some 5) .waiting]).ticket? 6 = some (mkTicket 6 .waiting) ∧
      (passingQueued [mkJob 8 .preset (some 5) .waiting]).jobOf? 5 = some (mkJob 8 .preset (some 5) .waiting) ∧
      (passingQueued [mkJob 8 .preset (some 5) .waiting]).job? 8 = some (mkJob 8 .preset (some 5) .waiting) ∧
      (passingQueued [mkJob 8 .preset (some 5) .waiting]).bestCandidate? (mkTicket 6 .waiting) = none ∧
      ((passingQueued [mkJob 8 .preset (some 5) .waiting]).escalationChoice? (mkTicket 6 .waiting)).map (·.1) =
        some 5) ∧
    ((passingQueued (List.replicate 16 (mkJob 3 .preset (some 9) .waiting))).jobOf? 5 = none ∧
      16 ≤ (passingQueued (List.replicate 16 (mkJob 3 .preset (some 9) .waiting))).jobs.length ∧
      ((passingQueued (List.replicate 16 (mkJob 3 .preset (some 9) .waiting))).escalationChoice?
        (mkTicket 6 .waiting)).map (·.1) = some 5) ∧
    ((passingEscalated .measuring).ticket? 6 = some { mkTicket 6 .waiting with escalated := some 5 } ∧
      (passingEscalated .measuring).bestCandidate? (mkTicket 6 .waiting) = none ∧
      ((passingEscalated .measuring).tool 5).state = .measuring) ∧
    ((passingEscalated .check).ticket? 6 = some { mkTicket 6 .waiting with escalated := some 5 } ∧
      (passingEscalated .check).bestCandidate? (mkTicket 6 .waiting) = none ∧
      ((passingEscalated .check).tool 5).state = .check) ∧
    (ticketIn .failed).ticket? 6 = some (mkTicket 6 .failed) ∧ base.ticket? 6 = none := by decide +kernel

/-- The fourth link is a second CELL link, and the entries are the third's. -/
def twoCells : State :=
  { handed .staged with tickets := [mkTicket 6 .waiting], links := base.links.set 3 { base.link 3 with role := .cell } }
theorem witness_ListingsAnswerTheTables :
    (waitingTicket.Takes cell 0x1D ∧ waitingTicket.ticket? (6 : BitVec 16).toNat = some (mkTicket 6 .waiting) ∧
      ((waitingTicket.link 2).role != .cell || (2 : LinkId) == (mkTicket 6 .waiting).link) = true) ∧
    (twoCells.Takes { link := 3, tagByte := 0 } 0x1D ∧
      twoCells.ticket? (6 : BitVec 16).toNat = some (mkTicket 6 .waiting) ∧
      ((twoCells.link 3).role != .cell || (mkTicket 6 .waiting).link == 3) = false) ∧
    waitingTicket.Takes cell 0x1E ∧
    ((handed (.offered 0)).Takes cell 0x28 ∧
      (handed (.offered 0)).handoff? (2 : BitVec 16).toNat = some (mkHandoff 2 5 (.offered 0)) ∧
      (((handed (.offered 0)).link 2).role != .cell || (mkHandoff 2 5 (.offered 0)).link == 2) = true) ∧
    (twoCells.Takes { link := 3, tagByte := 0 } 0x28 ∧
      twoCells.handoff? (2 : BitVec 16).toNat = some (mkHandoff 2 5 .staged) ∧
      ((twoCells.link 3).role != .cell || (mkHandoff 2 5 .staged).link == 3) = false) ∧
    (handed .staged).Takes cell 0x29 ∧ (dispensing .released).Takes crib 0x22 := by
  and_intros <;> first | exact takes_spec (by decide +kernel) | decide +kernel

theorem witness_FetchOrderTakesTheOldest :
    ((dispensing .released).Takes crib 0x1F ∧ (dispensing .released).doorIsOpen = false ∧
      (dispensing .released).orders = [] ++ mkOrder 407 (.cell 6) 5 .released :: [] ∧
      (∀ b ∈ ([] : List Order), b.phase ≠ .released) ∧ (mkOrder 407 (.cell 6) 5 .released).phase = .released) ∧
    (doorOpen.Takes crib 0x1F ∧ doorOpen.doorIsOpen = true) ∧
    ((dispensing (.fetched 3)).Takes crib 0x1F ∧ ∀ o ∈ (dispensing (.fetched 3)).orders, o.phase ≠ .released) ∧
    (base.mainUp = true ∧ base.doorIsOpen = false) ∧ (doorOpen.mainUp = true ∧ doorOpen.doorIsOpen = true) := by
  and_intros <;> first | exact takes_spec (by decide +kernel) | decide +kernel

theorem witness_OrderDoneMovesTheTool :
    ((dispensing (.fetched 0)).Takes crib 0x20 ∧
      (dispensing (.fetched 0)).order? (407 : BitVec 16).toNat = some (mkOrder 407 (.cell 6) 5 (.fetched 0)) ∧
      (dispensing (.fetched 0)).ticket? 6 = some (mkTicket 6 (.dispensing 5)) ∧
      ((dispensing (.fetched 0)).tool 5).state = .allocated ∧ (dispensing (.fetched 0)).mainUp = true) ∧
    ((fetchedFor (.fetched 300)).Takes crib 0x20 ∧
      (fetchedFor (.fetched 300)).order? (1 : BitVec 16).toNat = some (mkOrder 1 (.presetter 8) 5 (.fetched 300)) ∧
      ((fetchedFor (.fetched 300)).tool 5).loc = .crib 10 ∧
      (fetchedFor (.fetched 300)).job? 8 = some (mkJob 8 .verify (some 5) (.fetching 1)) ∧
      (mkJob 8 .verify (some 5) (.fetching 1)).phase ≠ .current ∧
      (mkJob 8 .verify (some 5) (.fetching 1)).record = some (mkOrder 1 (.presetter 8) 5 (.fetched 300)).record ∧
      ((fetchedFor (.fetched 300)).tool 5).state ≠ .check ∧
      (fetchedFor (.fetched 300)).mainUp = true) := by
  and_intros <;> first | exact takes_spec (by decide +kernel) | decide +kernel

theorem witness_DepositPlacesTheTool : (77 : Tag) ≠ 0 ∧ (239 : Byte).toNat = (239 : Fin 240).val ∧
    ((withTool 5 .ready .presetter).Takes crib 0x21 ∧ (withTool 5 .ready .presetter).holder? 77 = some 5 ∧
      (∀ k, k ≠ 5 → ((withTool 5 .ready .presetter).tool k).loc ≠ .crib 239) ∧
      ((withTool 5 .ready .presetter).tool 5).loc = .presetter ∧
      ((withTool 5 .ready .presetter).tool 5).state = .ready ∧ (withTool 5 .ready .presetter).currentJob? = none) ∧
    ((atPresetter .offered .presetDue).Takes crib 0x21 ∧ (atPresetter .offered .presetDue).holder? 77 = some 5 ∧
      (∀ k, k ≠ 5 → ((atPresetter .offered .presetDue).tool k).loc ≠ .crib 239) ∧
      ((atPresetter .offered .presetDue).tool 5).loc = .presetter ∧
      ((atPresetter .offered .presetDue).tool 5).state = .presetDue ∧
      (atPresetter .offered .presetDue).currentJob? = some presetJob ∧ presetJob.record = some 5 ∧
      (atPresetter .offered .presetDue).engine.phase = .offered) ∧
    ((withTool 5 .returning .transit).Takes crib 0x21 ∧ (withTool 5 .returning .transit).holder? 77 = some 5 ∧
      (∀ k, k ≠ 5 → ((withTool 5 .returning .transit).tool k).loc ≠ .crib 239) ∧
      ((withTool 5 .returning .transit).tool 5).loc = .transit ∧
      ((withTool 5 .returning .transit).tool 5).state = .returning ∧
      (withTool 5 .returning .transit).jobOf? 5 = none) ∧
    ((withTool 5 .check .unknown).Takes crib 0x21 ∧ (withTool 5 .check .unknown).holder? 77 = some 5 ∧
      (∀ k, k ≠ 5 → ((withTool 5 .check .unknown).tool k).loc ≠ .crib 239) ∧
      ((withTool 5 .check .unknown).tool 5).loc = .unknown ∧ ((withTool 5 .check .unknown).tool 5).state = .check ∧
      (withTool 5 .check .unknown).jobOf? 5 = none) := by
  and_intros <;> first | exact takes_spec (by decide +kernel) | exact fun k h => elsewhere h rfl | decide +kernel

theorem witness_HandoffEndsMoveTheTool :
    ((handed .staged).Takes cell 0x23 ∧ (handed .staged).handoffs = [] ++ mkHandoff 2 5 .staged :: [] ∧
      (∀ b ∈ ([] : List Handoff), ¬ (b.link = 2 ∧ b.phase = .staged)) ∧ (mkHandoff 2 5 .staged).link = 2 ∧
      (mkHandoff 2 5 .staged).phase = .staged) ∧
    ((handed (.offered 900)).Takes cell 0x23 ∧
      ∀ h ∈ (handed (.offered 900)).handoffs, ¬ (h.link = 2 ∧ h.phase = .staged)) ∧
    ((handed (.offered 0)).handoff? (2 : BitVec 16).toNat = some (mkHandoff 2 5 (.offered 0)) ∧
      ((handed (.offered 0)).tool (mkHandoff 2 5 (.offered 0)).record).state = .inTransit ∧
      (handed (.offered 0)).Takes cell 0x24 ∧ (mkHandoff 2 5 (.offered 0)).snapshot.tag ≠ 0 ∧
      (handed (.offered 0)).Takes cell 0x25 ∧ (handed (.offered 0)).mainUp = true) := by
  and_intros <;> first | exact takes_spec (by decide +kernel) | decide +kernel

def machined : State := withTool 511 .inMachine (.machine place)
def machinedElsewhere : State := withTool 511 .inMachine (.machine { place with link := 3 })
theorem witness_UsageLowersTheLife : (511 : BitVec 16).toNat = (511 : RecNo).val ∧
    ((machined.tool 511).state = .inMachine ∧ (machined.tool 511).loc = .machine place ∧ machined.Takes cell 0x26 ∧
      machined.Takes cell 0x27 ∧ place.link = 2) ∧
    ((machinedElsewhere.tool 511).state = .inMachine ∧
      (machinedElsewhere.tool 511).loc = .machine { place with link := 3 } ∧ machinedElsewhere.Takes cell 0x26 ∧
      machinedElsewhere.Takes cell 0x27 ∧ (3 : LinkId) ≠ 2) := by
  and_intros <;> first | exact takes_spec (by decide +kernel) | decide +kernel

theorem witness_PollReportsTheConditions : base.Takes sup 0x2A ∧ (base.link 2).role = .cell ∧
    (base.link 1).role = .crib ∧ (base.link 0).role = .presetter ∧ (base.link 3).role = .supervisor ∧
    (base.Takes cell 0x2B ∧ (4 : Byte).toNat = (base.link 2).role.conditionCount ∧
      ([0, 1, 0, 1] : List Byte).length = (4 : Byte).toNat ∧ ∀ e ∈ ([0, 1, 0, 1] : List Byte), e.toNat ≤ 1) ∧
    ¬ ((5 : Byte).toNat = (base.link 2).role.conditionCount) ∧ base.Takes sup 0x2C := by
  and_intros <;> first | exact takes_spec (by decide +kernel) | decide +kernel

def disabledCell : State := base.changeLink 2 fun k => { k with role := .disabled }
/-- A recalled tool in a cell's machine, a failed ticket, a staged entry and an order: a parameter for each role. -/
def conditioned : State :=
  { recalledTool 7 .inMachine (.machine place) with
    tickets := [mkTicket 6 .failed], handoffs := [mkHandoff 2 5 .staged], orders := [mkOrder 407 (.cell 9) 5 .released]
    unread := true, log := logged.log }
theorem witness_PollReportsTheConditions_parameters :
    ((conditioned.tool 7).recalled = true ∧ (conditioned.tool 7).state = .inMachine ∧
      (conditioned.tool 7).loc = .machine place ∧ place.link = 2) ∧
    (conditioned.tickets = [] ++ mkTicket 6 .failed :: [] ∧ (mkTicket 6 .failed).link = 2) ∧
    (conditioned.handoffs = [] ++ mkHandoff 2 5 .staged :: [] ∧ (mkHandoff 2 5 .staged).link = 2) ∧
    (conditioned.doorIsOpen = false ∧ conditioned.orders = [] ++ mkOrder 407 (.cell 9) 5 .released :: []) ∧
    (conditioned.unread = true ∧ conditioned.log.getLast?.map (·.job) = some 8) ∧
    ((atPresetter .offered .presetDue).engine.phase = .offered ∧
      (atPresetter .offered .presetDue).currentJob? = some presetJob) ∧ (disabledCell.link 2).role = .disabled := by
  decide +kernel

theorem witness_SettingsAreRangedAndParked : base.Takes sup 0x2F ∧ settingOf? (1 : Byte).toNat = some .dwell ∧
    SettingId.dwell.isMeasurement = true ∧ base.engine.phase = .idle ∧ settingOf? (16 : Byte).toNat = some .loadTimeout ∧
    SettingId.loadTimeout.isMeasurement = false ∧ (atPresetter .mounted .measuring).Takes sup 0x2F ∧
    (atPresetter .mounted .measuring).engine.phase ≠ .idle := by
  and_intros <;> first | exact takes_spec (by decide +kernel) | decide +kernel

theorem witness_GetSettingReadsTheSetting : base.Takes sup 0x30 ∧ settingOf? (8 : Byte).toNat = some .guardRef ∧
    settingOf? (9 : Byte).toNat = some .stationTimeout ∧ 9 ≤ (9 : Byte).toNat ∧ (0 : Byte).toNat = 0 ∧
    17 ≤ (17 : Byte).toNat := by
  and_intros <;> first | exact takes_spec (by decide +kernel) | decide +kernel

theorem witness_RefusedRequestsChangeNothing : (Instr.issueStatus cell 7).caller = some cell ∧ base.mainUp = true ∧
    (base.link 2).ignoring = false ∧ (base.link 2).waiting = none ∧ (base.link 2).tx = none ∧
    (exec (.issueStatus cell 7) base = .next (nextOf (exec (.issueStatus cell 7) base)) ∧
      ((nextOf (exec (.issueStatus cell 7) base)).link 2).tx =
        some { function := 0x9D, tagByte := 0x43, code := .noSuchTicket, results := [] } ∧
      7 ≤ ReplyCode.noSuchTicket.code) ∧
    ((Instr.retire cell 5).caller = some cell ∧ (Instr.retire cell 5).code = some 0x02 ∧
      (base.link 2).role ∉ requestRoles 0x02) ∧
    ((Instr.undefinedFunction cell 0x31 []).caller = some cell ∧
      (Instr.undefinedFunction cell 0x31 []).wellFormed = true) ∧
    ((disabledCell.link 2).role = .disabled ∧ disabledCell.mainUp = true ∧ (disabledCell.link 2).ignoring = false ∧
      (disabledCell.link 2).waiting = none ∧ (disabledCell.link 2).tx = none) := by
  and_intros <;> first | rfl | decide +kernel

theorem witness_FramesRunTheirRequests :
    ((Instr.editData sup (List.replicate 238 0)).wellFormed = true ∧
      (Instr.editData sup (List.replicate 238 0)).caller = some sup) ∧
    (base.mainUp = true ∧ (base.link 2).ignoring = false ∧ (List.replicate 238 (0 : Byte)).length ≤ 238 ∧
      (base.link 2).waiting = none ∧ (base.link 2).tx = none) ∧
    (sending.mainUp = true ∧ (sending.link 2).ignoring = false ∧ (sending.link 2).waiting = none ∧
      (sending.link 2).tx ≠ none) ∧
    (withWaiting.mainUp = true ∧ (withWaiting.link 2).ignoring = false ∧ (withWaiting.link 2).waiting ≠ none) ∧
    (([0x2E] : List Byte).length < 2 ∧ 240 < (List.replicate 241 (0 : Byte)).length ∧
      frameCheck [2, 0x2E, 0x43] + 1 ≠ frameCheck (lengthByte [0x2E, 0x43] :: [0x2E, 0x43])) ∧
    (ignoringLine.mainUp = true ∧ (ignoringLine.link 2).ignoring = true) ∧
    (base.Takes cell (0x2E : Byte).toNat ∧ 1 ≤ (0x2E : Byte).toNat ∧ (0x2E : Byte).toNat ≤ 48 ∧
      (0x2E : Byte) ≠ 0x0B ∧ (0x2E : Byte) ≠ 0x2B ∧
      ([0] : List Byte).length ≠ (paramWidths (0x2E : Byte).toNat).sum ∧ ([0] : List Byte).length ≤ 238) ∧
    base.Takes cell (0x2B : Byte).toNat ∧
    ((base.link 2).tx = none ∧
      (sending.link 2).tx = some { function := 0xAE, tagByte := 0x43, code := .ok, results := [] }) := by
  and_intros <;> first | exact takes_spec (by decide +kernel) | decide +kernel

theorem witness_CharactersMakeTheFrame : base.mainUp = true ∧ (base.link 2).ignoring = false ∧
    (base.link 2).receiver = .hunting ∧ 2 ≤ ([0x2E, 0x43] : List Byte).length ∧
    (List.replicate 240 (0 : Byte)).length ≤ 240 := by decide +kernel

theorem witness_RequestsDecodeFromTheirParameters : (Instr.editData sup (List.replicate 238 0)).wellFormed = true ∧
    (Instr.editData sup (List.replicate 238 0)).caller = some sup ∧
    (Instr.editData sup (List.replicate 238 0)).code = some 0x0B := by decide +kernel

def receiving (r : Receiver) : State := base.changeLink 2 fun k => { k with receiver := r }
theorem witness_LinkEventsMoveTheLink : base.mainUp = true ∧ (ignoringLine.link 2).ignoring = true ∧
    (base.link 2).ignoring = false ∧ (base.link 2).receiver = .hunting ∧
    ((receiving .length).mainUp = true ∧ ((receiving .length).link 2).ignoring = false ∧
      ((receiving .length).link 2).receiver = .length) ∧
    (((receiving (.body 2 [7, 8])).link 2).ignoring = false ∧
      ((receiving (.body 2 [7, 8])).link 2).receiver = .body 2 [7, 8] ∧ ([7, 8] : List Byte).length + 1 < 2 + 2) ∧
    (((receiving (.body 2 [7, 8, 9])).link 2).ignoring = false ∧
      ((receiving (.body 2 [7, 8, 9])).link 2).receiver =
        .body ([7, 8] : List Byte).length (([7, 8] : List Byte) ++ [9])) ∧
    (base.link 2).tx = none ∧
    (sending.mainUp = true ∧ (sending.link 2).tx =
      some { function := 0xAE, tagByte := 0x43, code := .ok, results := [] } ∧ (sending.link 2).waiting = none) ∧
    (withWaiting.mainUp = true ∧ (withWaiting.link 2).tx =
      some { function := 0xAE, tagByte := 0x43, code := .ok, results := [] } ∧
      (withWaiting.link 2).waiting = some { function := 0x2E, tagByte := 0x50, params := [] }) ∧
    (base.link 2).role ≠ .presetter ∧
    ((base.link 0).ignoring = false ∧ (base.link 0).role = .presetter ∧ base.currentJob? = none) ∧
    ((atPresetter .mounted .measuring).mainUp = true ∧ ((atPresetter .mounted .measuring).link 0).ignoring = false ∧
      ((atPresetter .mounted .measuring).link 0).role = .presetter ∧
      (atPresetter .mounted .measuring).currentJob? = some presetJob) := by decide +kernel

/-- A step from a state other than the reset state, for the invariants' hypotheses: a setting is about to be written. -/
def stepping : State :=
  { withTool 5 .ready (.crib 10) with
    pending := [.setSetting sup 9 100], recalls := [1, 2], hall := { count := 4294967295, set := true }
    links := base.links.set 3 { base.link 3 with attention := true } }
theorem stepping_steps : step stepping = .next (nextOf (step stepping)) := rfl

theorem witness_StepsKeepAttentionJudged : stepping.AttentionJudged ∧
    step stepping = .next (nextOf (step stepping)) := by
  refine ⟨stepping.attentionJudged_iff.2 ?_, stepping_steps⟩
  decide +kernel
/-- A dispense about to end in a full handoff table: 63 entries and one DISPENSING ticket. -/
def reserving : State :=
  { dispensing (.fetched 0) with
    pending := [.orderDone crib 407 0], handoffs := (List.range 63).map fun i => mkHandoff (i + 1) 9 .staged }
theorem witness_StepsKeepTheSizes : stepping.WithinSizes ∧ step stepping = .next (nextOf (step stepping)) ∧
    reserving.Reserved ∧ step reserving = .next (nextOf (step reserving)) := by
  refine ⟨by constructor <;> decide +kernel, stepping_steps, ⟨by decide +kernel, by decide +kernel, ?_, ?_⟩, rfl⟩
  · rintro o ho n hn
    obtain rfl : o = mkOrder 407 (.cell 6) 5 (.fetched 0) := by simpa [reserving, dispensing] using ho
    cases hn
    exact ⟨mkTicket 6 (.dispensing 5), by simp [reserving, dispensing], rfl, 5, rfl⟩
  · simp [reserving, dispensing]
theorem witness_StepsKeepTheSettingsRanged : stepping.SettingsRanged ∧
    step stepping = .next (nextOf (step stepping)) := by
  refine ⟨⟨?_, ?_, by decide +kernel⟩, stepping_steps⟩
  · intro i; cases i <;> exact ⟨by decide +kernel, by decide +kernel⟩
  · intro i v h; cases i <;> cases h
theorem stepping_tool {n : RecNo} (h : n ≠ 5) : stepping.tool n = ToolRecord.blank := by
  show (base.setTool 5 _).tool n = _
  rw [State.tool_setTool_ne _ _ h, base_tool]

theorem witness_StepsKeepThePartProper : stepping.LifeBounded ∧ stepping.TagsProper ∧ stepping.PocketsSingle ∧
    stepping.RecallsProper ∧ stepping.RolesSingle ∧ stepping.HallProper ∧ stepping.PriorsProper ∧
    stepping.UrgentFirst ∧ step stepping = .next (nextOf (step stepping)) := by
  refine ⟨fun n => ?_, ⟨fun n hn => ?_, fun m n hm hn => ?_⟩, fun m n p hm hn => ?_,
    ⟨by decide +kernel, by decide +kernel⟩, ?_, ⟨by decide +kernel, by decide +kernel⟩, ?_,
    ⟨by decide +kernel, by decide +kernel⟩, stepping_steps⟩
  · by_cases h : n = 5
    · subst h; decide +kernel
    · rw [stepping_tool h]; exact Nat.le_refl _
  · by_cases h : n = 5
    · subst h; cases hn
    · rw [stepping_tool h]; rfl
  · have h5 : m = 5 := by by_contra h; exact hm (by rw [stepping_tool h]; rfl)
    have h6 : n = 5 := by by_contra h; exact hm (by rw [hn, stepping_tool h]; rfl)
    rw [h5, h6]
  · have h5 : m = 5 := by by_contra h; rw [stepping_tool h] at hm; cases hm
    have h6 : n = 5 := by by_contra h; rw [stepping_tool h] at hn; cases hn
    rw [h5, h6]
  · unfold State.RolesSingle; decide +kernel
  · unfold State.PriorsProper; decide +kernel

end Sys2Proof.Tests
end

/-! PROOF. Queue sections and fresh numbers: what placing, changing and removing an entry does to a queue's entries,
its order and its numbers (R62, R122, R64). -/

namespace Sys2Proof.Machine

-- One proof after another: side by side their threads need more memory than the checks allow.
set_option Elab.async false

/-! ### Placing an entry -/

section Sections
variable {α : Type} (u : α → Bool) (e : α) (q : List α)

theorem perm_filter_cons_filter : (q.filter u ++ e :: q.filter (fun x => !u x)).Perm (e :: q) :=
  List.perm_middle.trans ((List.filter_append_perm u q).cons e)

/-- Placing an entry at a tail adds it and loses none. -/
theorem perm_placeTail : (placeTail u e q).Perm (e :: q) := by
  unfold placeTail
  split
  · exact perm_filter_cons_filter u e q
  · exact List.perm_append_singleton e q

/-- Placing an entry at a head adds it and loses none. -/
theorem perm_placeHead : (placeHead u e q).Perm (e :: q) := by
  unfold placeHead
  split
  · exact .refl _
  · exact perm_filter_cons_filter u e q

/-- Urgent entries stand ahead of normal ones. -/
abbrev UrgentAhead : Prop := q.Pairwise fun a b => u b = true → u a = true

variable {u e q}

theorem urgentAhead_sections : UrgentAhead u (q.filter u ++ e :: q.filter (fun x => !u x)) := by
  have normal : (q.filter fun x => !u x).Pairwise fun a b => u b = true → u a = true :=
    List.pairwise_of_forall_mem_list fun a _ b hb h => by simp [h] at hb
  refine List.pairwise_append.2 ⟨?_, List.pairwise_cons.2 ⟨fun b hb h => ?_, normal⟩, fun a ha _ _ _ => ?_⟩
  · exact List.pairwise_of_forall_mem_list fun a ha _ _ _ => (List.mem_filter.1 ha).2
  · simp [h] at hb
  · exact (List.mem_filter.1 ha).2

theorem urgentAhead_placeTail (h : UrgentAhead u q) : UrgentAhead u (placeTail u e q) := by
  unfold placeTail
  split
  · exact urgentAhead_sections
  · next he => exact List.pairwise_append.2 ⟨h, by simp, fun a _ b hb k => by simp_all⟩

theorem urgentAhead_placeHead (h : UrgentAhead u q) : UrgentAhead u (placeHead u e q) := by
  unfold placeHead
  split
  · next he => exact List.pairwise_cons.2 ⟨fun _ _ _ => he, h⟩
  · exact urgentAhead_sections

theorem urgentAhead_map {f : α → α} (hf : ∀ x, u (f x) = u x) (h : UrgentAhead u q) : UrgentAhead u (q.map f) :=
  List.pairwise_map.2 (h.imp fun k => by simpa only [hf] using k)

end Sections

/-! ### Entries of their own number -/

section Numbers
variable {α : Type} {number : α → Nat} {l : List α}

theorem map_number_changeAt {f : α → α} (n : Nat) (hf : ∀ x, number (f x) = number x) :
    (l.map fun x => if number x == n then f x else x).map number = l.map number := by
  rw [List.map_map]
  refine List.map_congr_left fun x _ => ?_
  simp only [Function.comp]
  split
  · exact hf x
  · rfl

theorem changeAt_of_not_mem {f : α → α} {n : Nat} (h : n ∉ l.map number) :
    (l.map fun x => if number x == n then f x else x) = l := by
  refine (List.map_congr_left fun x hx => ?_).trans (List.map_id l)
  rw [if_neg]
  · rfl
  · intro e
    exact h (beq_iff_eq.1 e ▸ List.mem_map_of_mem hx)

/-- Among entries with numbers of their own, a change at one number touches one entry at most. -/
theorem countP_changeAt_le (p : α → Bool) (f : α → α) (n : Nat) (h : (l.map number).Nodup) :
    (l.map fun x => if number x == n then f x else x).countP p ≤ l.countP p + 1 := by
  induction l with
  | nil => simp
  | cons x l ih =>
    simp only [List.map_cons, List.nodup_cons] at h
    obtain ⟨hx, hl⟩ := h
    have ih := ih hl
    by_cases e : number x = n
    · rw [List.map_cons, changeAt_of_not_mem (e ▸ hx), List.countP_cons, List.countP_cons]
      split_ifs <;> omega
    · rw [List.map_cons, if_neg (by simpa using e), List.countP_cons, List.countP_cons]
      omega

/-- A change that makes no entry count adds none. -/
theorem countP_changeAt_le_of (p : α → Bool) {f : α → α} (n : Nat) (hf : ∀ x, p (f x) = true → p x = true) :
    (l.map fun x => if number x == n then f x else x).countP p ≤ l.countP p := by
  rw [List.countP_map]
  refine List.countP_mono_left fun x _ hx => ?_
  simp only [Function.comp] at hx
  split at hx
  · exact hf x hx
  · exact hx

/-- Taking out an entry that counts lowers the count. -/
theorem countP_filter_lt {p q : α → Bool} {a : α} (ha : a ∈ l) (hp : p a = true) (hq : q a = false) :
    (l.filter q).countP p < l.countP p := by
  have own : 0 < (l.filter fun x => !q x).countP p :=
    List.countP_pos_iff.2 ⟨a, List.mem_filter.2 ⟨ha, by simp [hq]⟩, hp⟩
  rw [List.countP_eq_countP_filter_add l p q]
  omega

/-- Entries with numbers of their own are told apart by them. -/
theorem eq_of_number_eq {a b : α} (h : (l.map number).Nodup) (ha : a ∈ l) (hb : b ∈ l) (e : number a = number b) :
    a = b := List.inj_on_of_nodup_map h ha hb e

end Numbers

/-! ### Fresh numbers (R64) -/

/-- Counting on from a number, the numbers reached before the count comes round again. -/
theorem iterate_nextNumber (n : Nat) : ∀ i, i < 65535 → nextNumber^[i] n =
    if n < 65535 then (if n + i ≤ 65535 then n + i else n + i - 65535) else (if i = 0 then n else i)
  | 0, _ => by simp; omega
  | i + 1, h => by
    rw [Function.iterate_succ_apply', iterate_nextNumber n i (by omega)]
    by_cases hn : n < 65535
    · rw [if_pos hn, if_pos hn, nextNumber]
      split_ifs <;> omega
    · rw [if_neg hn, if_neg hn, if_neg (Nat.succ_ne_zero i), nextNumber]
      split_ifs <;> omega

/-- A number found held has every number passed over held too. -/
theorem iterate_mem_of_freshNumber_mem : ∀ (fuel n : Nat) (held : List Nat), freshNumber fuel n held ∈ held →
    ∀ i ≤ fuel, nextNumber^[i] n ∈ held
  | 0, n, held, h, i, hi => by
    obtain rfl : i = 0 := by omega
    exact h
  | fuel + 1, n, held, h, i, hi => by
    unfold freshNumber at h
    split at h
    · next hn =>
      cases i with
      | zero => simpa using hn
      | succ i =>
        rw [Function.iterate_succ_apply]
        exact iterate_mem_of_freshNumber_mem fuel _ held h i (by omega)
    · next hn => exact absurd (by simpa using h) hn

/-- The number an entry takes is held by no other, while numbers are left (R64). -/
theorem takeNumber_not_mem (next : Nat) (held : List Nat) (room : held.length + 1 < 65535) :
    takeNumber next held ∉ held := by
  intro h
  have all := iterate_mem_of_freshNumber_mem _ _ _ h
  have nodup : ((List.range (held.length + 1)).map fun i => nextNumber^[i] next).Nodup := by
    refine List.Nodup.map_on (fun i hi j hj e => ?_) List.nodup_range
    rw [List.mem_range] at hi hj
    rw [iterate_nextNumber _ _ (by omega), iterate_nextNumber _ _ (by omega)] at e
    split_ifs at e <;> omega
  have sub : ((List.range (held.length + 1)).map fun i => nextNumber^[i] next) ⊆ held := by
    intro m hm
    obtain ⟨i, hi, rfl⟩ := List.mem_map.1 hm
    exact all i (by rw [List.mem_range] at hi; omega)
  have := (List.subperm_of_subset nodup sub).length_le
  simp at this

end Sys2Proof.Machine

/-! PROOF. What it is for a change to keep the part's invariants, and that each change of one record, of a link, of a
queue and of the order list does. A change that does not touch what an invariant speaks of keeps it by the defaults of
the two structures; each lemma says only the invariants its change could break. -/

namespace Sys2Proof.Machine

-- One proof after another: side by side their threads need more memory than the checks allow.
set_option Elab.async false

/-- A change keeps every invariant but the handoff reservation. -/
structure State.KeepsParts (s t : State) : Prop where
  sizes   : s.WithinSizes → t.WithinSizes := by exact fun h => ⟨h.recalls, h.jobs, h.log, h.tickets, h.orders⟩
  life    : s.LifeBounded → t.LifeBounded := by exact id
  tags    : s.TagsProper ∧ s.PriorsProper → t.TagsProper ∧ t.PriorsProper := by exact id
  pockets : s.PocketsSingle → t.PocketsSingle := by exact id
  urgent  : s.UrgentFirst → t.UrgentFirst := by exact id
  recalls : s.RecallsProper → t.RecallsProper := by exact id
  roles   : s.RolesSingle → t.RolesSingle := by exact id
  hall    : s.HallProper → t.HallProper := by exact id

/-- A change keeps every invariant. -/
structure State.Keeps (s t : State) : Prop extends s.KeepsParts t where
  reserved : s.Reserved → t.Reserved := by exact fun h => ⟨h.fits, h.numbers, h.linked, h.single⟩

theorem State.KeepsParts.trans {s t u : State} (h : s.KeepsParts t) (k : t.KeepsParts u) : s.KeepsParts u where
  sizes := k.sizes ∘ h.sizes
  life := k.life ∘ h.life
  tags := k.tags ∘ h.tags
  pockets := k.pockets ∘ h.pockets
  urgent := k.urgent ∘ h.urgent
  recalls := k.recalls ∘ h.recalls
  roles := k.roles ∘ h.roles
  hall := k.hall ∘ h.hall

theorem State.Keeps.refl (s : State) : s.Keeps s := {}

theorem State.Keeps.of_eq {s t : State} (h : t = s) : s.Keeps t := h ▸ .refl s

theorem State.Keeps.trans {s t u : State} (h : s.Keeps t) (k : t.Keeps u) : s.Keeps u where
  toKeepsParts := h.toKeepsParts.trans k.toKeepsParts
  reserved := k.reserved ∘ h.reserved

theorem State.Keeps.foldl {α : Type} {f : State → α → State} (hf : ∀ s a, State.Keeps s (f s a)) :
    ∀ (as : List α) (s : State), s.Keeps (as.foldl f s)
  | [], s => .refl s
  | a :: as, s => (hf s a).trans (foldl hf as (f s a))

/-! ### Records -/

/-- What a record may become in one change: its life stays within its initial life (R8); its tag stays, is cleared, or
is one that no record carries (R7); it goes EMPTY only without a tag, or by taking a job's prior state (R105); and it
stands in its old pocket, in none, or in one that no other record holds (R6). -/
structure State.MayBecome (s : State) (n : RecNo) (r : ToolRecord) : Prop where
  life   : (s.tool n).lifeRem ≤ (s.tool n).lifeInit → r.lifeRem ≤ r.lifeInit := by exact id
  tag    : r.tag = (s.tool n).tag ∨ r.tag = 0 ∨ ∀ m, (s.tool m).state ≠ .empty → (s.tool m).tag ≠ r.tag := by
             exact .inl rfl
  used   : r.state = .empty → r.tag = 0 ∨ ((s.tool n).state = .empty ∧ r.tag = (s.tool n).tag) ∨
             ∃ j ∈ s.jobs, j.prior = some .empty := by exact fun h => nomatch h
  pocket : ∀ p, r.loc = .crib p → (s.tool n).loc = .crib p ∨ ∀ m, m ≠ n → (s.tool m).loc ≠ .crib p := by
             exact fun _ h => .inl h

/-- Only a record's state, tag, location and life matter to the invariants: its version may be any (R11). -/
theorem State.MayBecome.change {s : State} {n : RecNo} {r : ToolRecord} (h : s.MayBecome n r) (old : ToolRecord) :
    s.MayBecome n (old.change r) where
  life := by simpa using h.life
  tag := by simpa using h.tag
  used := by simpa using h.used
  pocket := by simpa using h.pocket

theorem State.tagsProper_setTool {s : State} {n : RecNo} {r : ToolRecord} (h : s.MayBecome n r) (ht : s.TagsProper)
    (hp : s.PriorsProper) : (s.setTool n r).TagsProper := by
  obtain ⟨blank, single⟩ := ht
  -- A nonzero tag that another record carries is not the changed record's.
  have apart : ∀ m, m ≠ n → r.tag ≠ 0 → (s.tool m).tag ≠ r.tag := by
    intro m hm h0 e
    rcases h.tag with same | zero | fresh
    · exact hm (single m n (e ▸ h0) (e.trans same))
    · exact h0 zero
    · exact fresh m (fun he => h0 (e ▸ blank m he)) e
  refine ⟨fun m hm => ?_, fun m k hm e => ?_⟩
  · rw [s.tool_setTool] at hm ⊢
    split at hm
    · next e =>
      rw [if_pos e]
      rcases h.used hm with zero | ⟨was, same⟩ | ⟨j, hj, hprior⟩
      · exact zero
      · exact same.trans (blank n was)
      · exact absurd hprior (hp j hj)
    · next e => rw [if_neg e]; exact blank m hm
  · rw [s.tool_setTool] at hm
    rw [s.tool_setTool, s.tool_setTool] at e
    split_ifs at hm e with h₁ h₂ h₂
    · exact h₁.trans h₂.symm
    · exact absurd e.symm (apart k h₂ hm)
    · exact absurd e (apart m h₁ (e ▸ hm))
    · exact single m k hm e

theorem State.pocketsSingle_setTool {s : State} {n : RecNo} {r : ToolRecord} (h : s.MayBecome n r)
    (hp : s.PocketsSingle) : (s.setTool n r).PocketsSingle := by
  -- The changed record's pocket is no other record's.
  have apart : ∀ m p, m ≠ n → r.loc = .crib p → (s.tool m).loc ≠ .crib p := by
    intro m p hm hr e
    rcases h.pocket p hr with same | free
    · exact hm (hp m n p e same)
    · exact free m hm e
  intro m k p hm hk
  rw [s.tool_setTool] at hm hk
  split_ifs at hm hk with h₁ h₂ h₂
  · exact h₁.trans h₂.symm
  · exact absurd hk (apart k p h₂ hm)
  · exact absurd hm (apart m p h₁ hk)
  · exact hp m k p hm hk

theorem State.keeps_setTool {s : State} {n : RecNo} {r : ToolRecord} (h : s.MayBecome n r) :
    s.Keeps (s.setTool n r) where
  life hl m := by
    rw [s.tool_setTool]
    split
    · exact h.life (hl n)
    · exact hl m
  tags ht := ⟨State.tagsProper_setTool h ht.1 ht.2, ht.2⟩
  pockets := State.pocketsSingle_setTool h

theorem State.keeps_changeTool {s : State} {n : RecNo} {f : ToolRecord → ToolRecord}
    (h : s.MayBecome n (f (s.tool n))) : s.Keeps (s.changeTool n f) := State.keeps_setTool (h.change _)

theorem State.mayBecome_self (s : State) (n : RecNo) : s.MayBecome n (s.tool n) where
  used h := .inr (.inl ⟨h, rfl⟩)

/-- Counting the steps of a change as one moves a version only (R11). -/
theorem State.keeps_asOneChange (t s : State) (n : RecNo) : t.Keeps (t.asOneChange s n) :=
  State.keeps_setTool ((t.mayBecome_self n).change _)

/-! ### Links and lines -/

theorem State.keeps_of_roles {s : State} {ls : Vector Link 4} (h : ∀ l : LinkId, ls[l].role = (s.link l).role) :
    s.Keeps { s with links := ls } where
  roles hr l m := by
    have e : ∀ l : LinkId, (State.link { s with links := ls } l).role = (s.link l).role := h
    rw [e, e]
    exact hr l m

theorem State.keeps_changeLink {s : State} {l : LinkId} {f : Link → Link} (h : (f (s.link l)).role = (s.link l).role) :
    s.Keeps (s.changeLink l f) := by
  refine State.keeps_of_roles fun m => ?_
  by_cases e : m = l
  · subst e
    exact (congrArg Link.role (s.link_changeLink_self m f)).trans h
  · exact congrArg Link.role (s.link_changeLink_ne f e)

theorem State.keeps_judgeAttention (s : State) : s.Keeps s.judgeAttention :=
  State.keeps_of_roles fun l => show (s.judgeAttention.link l).role = _ from by rw [s.link_judgeAttention]; rfl

/-! ### The job queue -/

/-- A change of the job queue: it stays within its size, urgent jobs stay ahead, and a job's prior state is one that a
job had already, or the state of a record that carries a tag (R62, R63, R78). -/
theorem State.keeps_jobs {s t : State} (same : t = { s with jobs := t.jobs, nextJob := t.nextJob, engine := t.engine })
    (size : s.jobs.length ≤ 16 → t.jobs.length ≤ 16)
    (urgent : UrgentAhead (·.urgent) s.jobs → UrgentAhead (·.urgent) t.jobs)
    (priors : ∀ j ∈ t.jobs, j.prior = none ∨ (∃ k ∈ s.jobs, j.prior = k.prior) ∨
      ∃ n, (s.tool n).tag ≠ 0 ∧ j.prior = some (s.tool n).state) : s.Keeps t := by
  generalize t.jobs = js, t.nextJob = nj, t.engine = e at same size urgent priors
  subst same
  refine { sizes := fun h => ⟨h.recalls, size h.jobs, h.log, h.tickets, h.orders⟩
           urgent := fun h => ⟨urgent h.1, h.2⟩, tags := fun ⟨ht, hp⟩ => ⟨ht, fun j hj => ?_⟩ }
  rcases priors j hj with none | ⟨k, hk, old⟩ | ⟨n, tagged, new⟩
  · rw [none]; exact fun h => nomatch h
  · rw [old]; exact hp k hk
  · rw [new]
    intro h
    exact tagged (ht.1 n (Option.some.inj h))

/-- A change of jobs in their places that keeps their urgency and their prior states. -/
theorem State.keeps_changeJob (s : State) (n : Nat) (f : Job → Job) (hu : ∀ j, (f j).urgent = j.urgent)
    (hp : ∀ j, (f j).prior = j.prior ∨ ∃ r, (s.tool r).tag ≠ 0 ∧ (f j).prior = some (s.tool r).state) :
    s.Keeps (s.changeJob n f) := by
  refine State.keeps_jobs rfl ?_ (urgentAhead_map fun j => ?_) fun j hj => ?_
  · simp [State.changeJob]
  · split
    · exact hu j
    · rfl
  · obtain ⟨k, hk, rfl⟩ := List.mem_map.1 hj
    split
    · exact (hp k).elim (fun e => .inr (.inl ⟨k, hk, e⟩)) fun e => .inr (.inr e)
    · exact .inr (.inl ⟨k, hk, rfl⟩)

theorem State.keeps_withoutJob (s : State) (n : Nat) : s.Keeps (s.withoutJob n) :=
  State.keeps_jobs rfl (s.ends_withoutJob n).jobs (fun h => h.filter _)
    fun j hj => .inr (.inl ⟨j, (List.mem_filter.1 hj).1, rfl⟩)

/-- An enqueue adds one job, which has no prior state (R64). -/
theorem State.mem_jobs_enqueue {s : State} {kind : JobKind} {r : Option RecNo} {plan : Plan} {o : Origin} {u : Bool}
    {place : QueuePlace} {j : Job} (h : j ∈ (s.enqueue kind r plan o u place).1.jobs) :
    j.prior = none ∨ j ∈ s.jobs := by
  cases place with
  | head =>
    rcases List.mem_cons.1 ((perm_placeHead _ _ _).mem_iff.1 h) with rfl | old
    · exact .inl rfl
    · exact .inr old
  | tail =>
    rcases List.mem_cons.1 ((perm_placeTail _ _ _).mem_iff.1 h) with rfl | old
    · exact .inl rfl
    · exact .inr old

/-- An enqueue takes no job out. -/
theorem State.mem_jobs_enqueue_of_mem {s : State} {j : Job} (h : j ∈ s.jobs) (kind : JobKind) (r : Option RecNo)
    (plan : Plan) (o : Origin) (u : Bool) (place : QueuePlace) : j ∈ (s.enqueue kind r plan o u place).1.jobs := by
  cases place
  · exact (perm_placeHead _ _ _).mem_iff.2 (List.mem_cons_of_mem _ h)
  · exact (perm_placeTail _ _ _).mem_iff.2 (List.mem_cons_of_mem _ h)

/-- A job enqueued into a queue with room (R62, R64, R67). -/
theorem State.keeps_enqueue (s : State) (kind : JobKind) (r : Option RecNo) (plan : Plan) (o : Origin) (u : Bool)
    (place : QueuePlace) (room : s.jobs.length < 16) : s.Keeps (s.enqueue kind r plan o u place).1 := by
  refine State.keeps_jobs rfl (s.settles_enqueue kind r plan o u place room).jobs (fun h => ?_) fun j hj => ?_
  · cases place
    · exact urgentAhead_placeHead h
    · exact urgentAhead_placeTail h
  · exact (State.mem_jobs_enqueue hj).imp_right fun old => .inl ⟨j, old, rfl⟩

/-- A promotion moves one job to the urgent section (R67). -/
theorem State.keeps_promote (s : State) (n : Nat) : s.Keeps (s.promote n) := by
  refine State.keeps_jobs ?_ (s.settles_promote n).jobs ?_ ?_ <;> unfold State.promote
  · split
    · rfl
    · split <;> rfl
  · intro h
    split
    · exact h
    · split
      · exact h
      · dsimp only
        exact urgentAhead_placeTail (h.filter _)
  · split
    · exact fun j hj => .inr (.inl ⟨j, hj, rfl⟩)
    · next j found =>
      split
      · exact fun j hj => .inr (.inl ⟨j, hj, rfl⟩)
      · intro k hk
        dsimp only at hk
        rcases List.mem_cons.1 ((perm_placeTail _ _ _).mem_iff.1 hk) with rfl | old
        · exact .inr (.inl ⟨j, List.mem_of_find?_eq_some found, rfl⟩)
        · exact .inr (.inl ⟨k, (List.mem_filter.1 old).1, rfl⟩)

theorem State.keeps_autoCalCheck (s : State) : s.Keeps s.autoCalCheck := by
  unfold State.autoCalCheck
  split
  · next due =>
    simp only [State.autoCalDue, Bool.and_eq_true, decide_eq_true_eq] at due
    exact s.keeps_enqueue _ _ _ _ _ _ due.2
  · exact .refl s

theorem State.keeps_engine (s : State) (e : Engine) : s.Keeps { s with engine := e } := {}

theorem State.keeps_engineChoose (s : State) : s.Keeps s.engineChoose := by
  unfold State.engineChoose
  split
  · split
    · exact .refl s
    · refine State.Keeps.trans (s.keeps_changeJob _ _ ?_ ?_) (State.keeps_engine _ _)
      · exact fun _ => rfl
      · exact fun _ => .inl rfl
  · exact .refl s

theorem State.keeps_applyParked (s : State) : s.Keeps s.applyParked := by
  rw [s.applyParked_eq]
  exact {}

theorem State.keeps_engineToIdle (s : State) : s.Keeps s.engineToIdle :=
  (s.keeps_engine _).trans (State.keeps_applyParked _)

theorem State.keeps_appendLog (s : State) (e : LogEntry) : s.Keeps (s.appendLog e) where
  sizes h := ⟨h.recalls, h.jobs, (s.ends_appendLog e).log h.log, h.tickets, h.orders⟩

end Sys2Proof.Machine

/-! PROOF. Tickets, orders and handoff entries keep the invariants, the handoff reservation among them: a reservation
passes from the DISPENSING ticket to the staged entry, and a ticket is taken back only once its order has left the list
(R20, R135, R140, R141, R166). -/

namespace Sys2Proof.Machine

-- One proof after another: side by side their threads need more memory than the checks allow.
set_option Elab.async false

/-! ### The handoff reservation (R166) -/

theorem TicketPhase.isDispensing_iff (p : TicketPhase) : p.isDispensing = true ↔ ∃ r, p = .dispensing r := by
  cases p <;> simp [TicketPhase.isDispensing]

/-- No order is for a ticket. -/
def State.Unlinked (s : State) (n : Nat) : Prop := ∀ o ∈ s.orders, o.link ≠ .cell n

/-- The ticket of an order to a cell is DISPENSING. -/
theorem State.Reserved.dispensing {s : State} (h : s.Reserved) {o : Order} (ho : o ∈ s.orders) {t : Ticket}
    (ht : t ∈ s.tickets) (hl : o.link = .cell t.number) : t.phase.isDispensing = true := by
  obtain ⟨u, hu, e, phase⟩ := h.linked o ho t.number hl
  obtain rfl := eq_of_number_eq h.numbers hu ht e
  exact u.phase.isDispensing_iff.2 phase

/-- A ticket that is not DISPENSING has no order. -/
theorem State.Reserved.unlinked_of_not_dispensing {s : State} (h : s.Reserved) {t : Ticket} (ht : t ∈ s.tickets)
    (hp : t.phase.isDispensing = false) : s.Unlinked t.number := fun o ho hl => by
  rw [h.dispensing ho ht hl] at hp
  cases hp

theorem State.Reserved.withoutOrder {s : State} (h : s.Reserved) (n : Nat) : (s.withoutOrder n).Reserved where
  fits := h.fits
  numbers := h.numbers
  linked o ho := h.linked o (List.mem_filter.1 ho).1
  single := h.single.filter _

/-- Once the order of a ticket has left the list, no order is for the ticket (R145). -/
theorem State.Reserved.unlinked_withoutOrder {s : State} (h : s.Reserved) {o : Order} (ho : o ∈ s.orders) {n : Nat}
    (hl : o.link = .cell n) : (s.withoutOrder o.number).Unlinked n := by
  intro q hq hql
  obtain ⟨hq, other⟩ := List.mem_filter.1 hq
  have ne : o ≠ q := by rintro rfl; simp at other
  have single : s.orders.Pairwise fun a b => ¬ (a.link = .cell n ∧ b.link = .cell n) :=
    h.single.imp fun k hab => k n hab.1 hab.2
  have symm : Std.Symm fun a b : Order => ¬ (a.link = .cell n ∧ b.link = .cell n) := ⟨fun _ _ k hab => k hab.symm⟩
  exact single.forall ho hq ne ⟨hl, hql⟩

/-- A ticket changed in its place keeps its number; while an order is for it, it stays DISPENSING; and the places
suffice. -/
theorem State.Reserved.changeTicket {s : State} (h : s.Reserved) {n : Nat} {f : Ticket → Ticket}
    (number : ∀ t, (f t).number = t.number)
    (fits : (s.changeTicket n f).tickets.countP (fun t => t.phase.isDispensing) + s.handoffs.length ≤ 64)
    (kept : ¬ s.Unlinked n → ∀ t, t.phase.isDispensing = true → (f t).phase.isDispensing = true) :
    (s.changeTicket n f).Reserved where
  fits := fits
  numbers := by
    have e : (s.changeTicket n f).tickets.map (·.number) = s.tickets.map (·.number) := map_number_changeAt n number
    exact e ▸ h.numbers
  linked o ho m hl := by
    obtain ⟨t, ht, rfl, phase⟩ := h.linked o ho m hl
    refine ⟨_, List.mem_map_of_mem ht, ?_⟩
    split
    · next e =>
      have e : t.number = n := by simpa using e
      refine ⟨number t, (TicketPhase.isDispensing_iff _).1 (kept ?_ t ((TicketPhase.isDispensing_iff _).2 phase))⟩
      exact fun none => none o ho (e ▸ hl)
    · exact ⟨rfl, phase⟩
  single := h.single

/-- A ticket that no order is for may be taken out of the queue. -/
theorem State.Reserved.withoutTicket {s : State} (h : s.Reserved) {n : Nat} (free : s.Unlinked n) :
    (s.withoutTicket n).Reserved where
  fits := (Nat.add_le_add_right (List.Sublist.countP_le List.filter_sublist) _).trans h.fits
  numbers := h.numbers.sublist (List.filter_sublist.map _)
  linked o ho m hl := by
    obtain ⟨t, ht, rfl, phase⟩ := h.linked o ho m hl
    refine ⟨t, List.mem_filter.2 ⟨ht, ?_⟩, rfl, phase⟩
    simpa using fun e : t.number = n => free o ho (e ▸ hl)
  single := h.single

/-- An order made for a DISPENSING ticket that had none, or for a job. -/
theorem State.Reserved.makeOrder {s : State} (h : s.Reserved) {link : OrderLink} (r : RecNo) (p : Fin 240)
    (linked : ∀ n, link = .cell n → s.Unlinked n ∧ ∃ t ∈ s.tickets, t.number = n ∧ ∃ r, t.phase = .dispensing r) :
    (s.makeOrder link r p).1.Reserved where
  fits := h.fits
  numbers := h.numbers
  linked o ho n hl := by
    rcases List.mem_append.1 ho with old | new
    · exact h.linked o old n hl
    · obtain rfl := List.mem_singleton.1 new
      exact (linked n hl).2
  single := by
    refine List.pairwise_append.2 ⟨h.single, List.pairwise_singleton _ _, fun o ho q hq n hl => ?_⟩
    obtain rfl := List.mem_singleton.1 hq
    exact fun e => (linked n e).1 o ho hl

/-- A ticket added to the queue, or put back into it, that is not DISPENSING and whose number no other has. -/
theorem State.Reserved.addTicket {s : State} (h : s.Reserved) {t : Ticket} {q : List Ticket}
    (hq : q.Perm (t :: s.tickets)) (number : t.number ∉ s.tickets.map (·.number))
    (idle : t.phase.isDispensing = false) (next : Nat) :
    State.Reserved { s with tickets := q, nextTicket := next } where
  fits := by
    have e : q.countP (fun t => t.phase.isDispensing) = s.tickets.countP (fun t => t.phase.isDispensing) := by
      rw [hq.countP_eq, List.countP_cons_of_neg (by simp [idle])]
    exact e ▸ h.fits
  numbers := (hq.map _).nodup_iff.2 (List.nodup_cons.2 ⟨number, h.numbers⟩)
  linked o ho n hl := by
    obtain ⟨u, hu, rest⟩ := h.linked o ho n hl
    exact ⟨u, hq.mem_iff.2 (List.mem_cons_of_mem _ hu), rest⟩
  single := h.single

/-! ### The other invariants -/

/-- A change of tickets, orders and handoff entries keeps the rest when the sizes and the tickets' sections hold. -/
theorem State.keepsParts_dispatch {s t : State}
    (same : t = { s with tickets := t.tickets, nextTicket := t.nextTicket, orders := t.orders, nextOrder := t.nextOrder,
                         handoffs := t.handoffs, nextHandoff := t.nextHandoff })
    (tickets : s.tickets.length ≤ 32 → t.tickets.length ≤ 32) (orders : s.orders.length ≤ 16 → t.orders.length ≤ 16)
    (urgent : UrgentAhead (·.urgent) s.tickets → UrgentAhead (·.urgent) t.tickets) : s.KeepsParts t := by
  generalize t.tickets = ts, t.nextTicket = nt, t.orders = os, t.nextOrder = no, t.handoffs = hs, t.nextHandoff = nh
    at same tickets orders urgent
  subst same
  exact { sizes := fun h => ⟨h.recalls, h.jobs, h.log, tickets h.tickets, orders h.orders⟩
          urgent := fun h => ⟨h.1, urgent h.2⟩ }

theorem State.keepsParts_changeTicket (s : State) (n : Nat) {f : Ticket → Ticket} (hf : ∀ t, (f t).urgent = t.urgent) :
    s.KeepsParts (s.changeTicket n f) := by
  refine State.keepsParts_dispatch rfl (s.settles_changeTicket n f).tickets.le.trans id (urgentAhead_map fun t => ?_)
  split
  · exact hf t
  · rfl

theorem State.keepsParts_withoutTicket (s : State) (n : Nat) : s.KeepsParts (s.withoutTicket n) :=
  State.keepsParts_dispatch rfl (List.length_filter_le _ _).trans id fun h => h.filter _

theorem State.keepsParts_makeOrder (s : State) (link : OrderLink) (r : RecNo) (p : Fin 240)
    (room : s.orders.length < 16) : s.KeepsParts (s.makeOrder link r p).1 :=
  State.keepsParts_dispatch rfl id (fun _ => by simpa [State.makeOrder] using room) id

theorem State.keepsParts_stage (s : State) (t : Ticket) (r : RecNo) : s.KeepsParts (s.stage t r) :=
  State.keepsParts_dispatch rfl id id id

theorem State.keepsParts_ticketToHead (s : State) (n : Nat) (f : Ticket → Ticket) :
    s.KeepsParts (s.ticketToHead n f) := by
  unfold State.ticketToHead
  split
  · exact (State.Keeps.refl s).toKeepsParts
  · next t found =>
    refine State.keepsParts_dispatch rfl (fun h => ?_) id fun h => urgentAhead_placeHead (h.filter _)
    have := length_filter_lt_of_find _ _ _ found
    simp only [length_placeHead, bne] at *
    omega

/-! ### Changes of tickets, orders and entries -/

/-- A note on a ticket: its escalation or its STARVED mark (R137, R138). -/
theorem State.keeps_noteTicket (s : State) (n : Nat) (f : Ticket → Ticket) (number : ∀ t, (f t).number = t.number)
    (urgent : ∀ t, (f t).urgent = t.urgent) (phase : ∀ t, (f t).phase = t.phase) : s.Keeps (s.changeTicket n f) where
  toKeepsParts := s.keepsParts_changeTicket n urgent
  reserved h := by
    refine h.changeTicket number ?_ fun _ t ht => (phase t).symm ▸ ht
    refine (Nat.add_le_add_right (countP_changeAt_le_of _ n fun t ht => ?_) _).trans h.fits
    exact phase t ▸ ht

theorem State.keeps_withoutOrder (s : State) (n : Nat) : s.Keeps (s.withoutOrder n) where
  toKeepsParts := State.keepsParts_dispatch rfl id (s.ends_withoutOrder n).orders id
  reserved h := h.withoutOrder n

/-- An order made for a job (R148). -/
theorem State.keeps_makeOrder_presetter (s : State) (j : Nat) (r : RecNo) (p : Fin 240) (room : s.orders.length < 16) :
    s.Keeps (s.makeOrder (.presetter j) r p).1 where
  toKeepsParts := s.keepsParts_makeOrder _ r p room
  reserved h := h.makeOrder r p fun _ hl => nomatch hl

/-- An order fetched: its link stays (R149). -/
theorem State.keeps_changeOrder (s : State) (n : Nat) (f : Order → Order) (link : ∀ o, (f o).link = o.link) :
    s.Keeps (s.changeOrder n f) := by
  have same : ∀ o : Order, (if o.number == n then f o else o).link = o.link := by
    intro o
    split
    · exact link o
    · rfl
  have parts : s.KeepsParts (s.changeOrder n f) :=
    State.keepsParts_dispatch rfl id (fun h => by simpa [State.changeOrder] using h) id
  refine { parts with
           reserved := fun h => ⟨h.fits, h.numbers, fun o ho => ?_, List.pairwise_map.2 (h.single.imp fun k => ?_)⟩ }
  · obtain ⟨q, hq, rfl⟩ := List.mem_map.1 ho
    rw [same]
    exact h.linked q hq
  · rwa [same, same]

theorem State.keeps_handoffs {s : State} {hs : List Handoff} (h : hs.length ≤ s.handoffs.length) :
    s.Keeps { s with handoffs := hs } where
  reserved r := ⟨(Nat.add_le_add_left h _).trans r.fits, r.numbers, r.linked, r.single⟩

theorem State.keeps_withoutHandoff (s : State) (n : Nat) : s.Keeps (s.withoutHandoff n) :=
  State.keeps_handoffs (List.length_filter_le _ _)

theorem State.keeps_changeHandoff (s : State) (n : Nat) (f : Handoff → Handoff) : s.Keeps (s.changeHandoff n f) :=
  State.keeps_handoffs (by simp)

/-- A ticket that waits, or has failed, leaves the queue (R127). -/
theorem State.keeps_withoutTicket {s : State} {t : Ticket} (ht : t ∈ s.tickets) (hp : t.phase.isDispensing = false) :
    s.Keeps (s.withoutTicket t.number) where
  toKeepsParts := s.keepsParts_withoutTicket _
  reserved h := h.withoutTicket (h.unlinked_of_not_dispensing ht hp)

/-- A new ticket takes a number of its own (R124, R126). -/
theorem State.keeps_placeTicket (s : State) (l : LinkId) (m p c life : Nat) (u : Bool) (room : s.tickets.length < 32) :
    s.Keeps (s.placeTicket l m p c life u).1 where
  toKeepsParts := by
    refine State.keepsParts_dispatch rfl (fun _ => ?_) id urgentAhead_placeTail
    simp only [State.placeTicket, length_placeTail]
    omega
  reserved h := h.addTicket (perm_placeTail _ _ _) (takeNumber_not_mem _ _ (by simp; omega)) rfl _

/-! ### A served ticket, a failed order and a delivery -/

/-- A waiting ticket served: its reservation was free, and it had no order (R133, R135). -/
theorem State.keeps_serve {s : State} {t : Ticket} (n : RecNo) (p : Fin 240) (ht : t ∈ s.tickets)
    (waiting : t.phase = .waiting) (free : s.reservationFree = true) (room : s.orders.length < 16) :
    s.Keeps (s.serve t n p) := by
  let s₁ := s.changeTool n fun r => { r with state := .allocated }
  let s₂ := s₁.changeTicket t.number fun u => { u with phase := .dispensing n, starved := false }
  have k₁ : s.Keeps s₁ := State.keeps_changeTool {}
  have k₂ : s₁.KeepsParts s₂ := s₁.keepsParts_changeTicket t.number fun _ => rfl
  have parts : s₁.KeepsParts (s.serve t n p) := k₂.trans (s₂.keepsParts_makeOrder (.cell t.number) n p room)
  refine k₁.trans { parts with reserved := fun h => ?_ }
  have h₂ : s₂.Reserved := by
    refine h.changeTicket (fun _ => rfl) ?_ fun _ _ _ => rfl
    have places : s.tickets.countP (fun t => t.phase.isDispensing) + s.handoffs.length < 64 := of_decide_eq_true free
    have one := countP_changeAt_le (fun t : Ticket => t.phase.isDispensing)
      (fun u => { u with phase := .dispensing n, starved := false }) t.number h.numbers
    exact (Nat.add_le_add_right one _).trans (by
      have e : s₁.tickets = s.tickets ∧ s₁.handoffs = s.handoffs := ⟨rfl, rfl⟩
      rw [e.1, e.2]; omega)
  refine h₂.makeOrder n p fun m hm => ?_
  obtain rfl := OrderLink.cell.inj hm
  refine ⟨h.unlinked_of_not_dispensing ht (by rw [waiting]; rfl), _, List.mem_map_of_mem ht, ?_⟩
  rw [if_pos (by simp)]
  exact ⟨rfl, n, rfl⟩

/-- A ticket whose order has left the list, put back at the head of its section (R20, R141). -/
theorem State.Reserved.ticketToHead {s : State} (h : s.Reserved) {n : Nat} (free : s.Unlinked n) {f : Ticket → Ticket}
    (number : ∀ t, (f t).number = t.number) (idle : ∀ t, (f t).phase.isDispensing = false) :
    (s.ticketToHead n f).Reserved := by
  unfold State.ticketToHead
  split
  · exact h
  · next t found =>
    have e : t.number = n := by simpa using List.find?_some found
    refine (h.withoutTicket free).addTicket (perm_placeHead _ _ _) ?_ (idle t) _
    rw [number, e]
    simp [State.withoutTicket]

/-- A ticket whose order has left the list is retried, or FAILED (R141). -/
theorem State.Reserved.retryTicket {s : State} (h : s.Reserved) {n : Nat} (free : s.Unlinked n) :
    (s.retryTicket n).Reserved := by
  unfold State.retryTicket
  split
  · exact h
  · split
    · refine h.changeTicket (fun _ => rfl) ?_ fun linked => absurd free linked
      exact (Nat.add_le_add_right (countP_changeAt_le_of _ n fun t ht => by cases ht) _).trans h.fits
    · exact h.ticketToHead free (fun _ => rfl) fun _ => rfl

theorem State.keepsParts_retryTicket (s : State) (n : Nat) : s.KeepsParts (s.retryTicket n) := by
  unfold State.retryTicket
  split
  · exact (State.Keeps.refl s).toKeepsParts
  · split
    · exact s.keepsParts_changeTicket n fun _ => rfl
    · exact s.keepsParts_ticketToHead n _

/-- A recalled tool's order leaves the list and its ticket waits again (R20). -/
theorem State.keeps_recalledTicket {s : State} {o : Order} (ho : o ∈ s.orders) {n : Nat} (hl : o.link = .cell n) :
    s.Keeps ((s.withoutOrder o.number).ticketToHead n fun u => { u with phase := .waiting }) where
  toKeepsParts := (s.keeps_withoutOrder _).toKeepsParts.trans (State.keepsParts_ticketToHead _ _ _)
  reserved h := (h.withoutOrder _).ticketToHead (h.unlinked_withoutOrder ho hl) (fun _ => rfl) fun _ => rfl

/-- A failed order leaves the list and its ticket is retried, or FAILED (R141, R153). -/
theorem State.keeps_failedTicket {s : State} {o : Order} (ho : o ∈ s.orders) {n : Nat} (hl : o.link = .cell n) :
    s.Keeps ((s.withoutOrder o.number).retryTicket n) where
  toKeepsParts := (s.keeps_withoutOrder _).toKeepsParts.trans (State.keepsParts_retryTicket _ _)
  reserved h := (h.withoutOrder _).retryTicket (h.unlinked_withoutOrder ho hl)

/-- A delivery to a cell: the order and its DISPENSING ticket leave, and the reservation passes to the staged entry
(R140, R152, R166). -/
theorem State.keeps_deliveredTicket {s : State} {o : Order} (ho : o ∈ s.orders) {t : Ticket} (ht : t ∈ s.tickets)
    (hl : o.link = .cell t.number) (r : RecNo) :
    s.Keeps (((s.withoutOrder o.number).withoutTicket t.number).stage t r) where
  toKeepsParts := (s.keeps_withoutOrder _).toKeepsParts.trans
    ((State.keepsParts_withoutTicket _ _).trans (State.keepsParts_stage _ _ _))
  reserved h := by
    have k := (h.withoutOrder o.number).withoutTicket (h.unlinked_withoutOrder ho hl)
    refine ⟨?_, k.numbers, k.linked, k.single⟩
    have fewer : (s.tickets.filter fun u => u.number != t.number).countP (fun u => u.phase.isDispensing) <
        s.tickets.countP fun u => u.phase.isDispensing := countP_filter_lt ht (h.dispensing ho ht hl) (by simp)
    have fits := h.fits
    show (s.tickets.filter fun u => u.number != t.number).countP (fun u => u.phase.isDispensing) +
      (s.handoffs ++ [_]).length ≤ 64
    rw [List.length_append, List.length_singleton]
    omega

end Sys2Proof.Machine

/-! PROOF. The issue pass, the fetch round, the end of a job, the owning rules of the requests, the events and the
start keep every invariant: so does every step. -/

namespace Sys2Proof.Machine

-- One proof after another: side by side their threads need more memory than the checks allow.
set_option Elab.async false

/-! ### The issue pass and what settles a change (R75, R132, R148) -/

/-- The arbiter grants a ticket a slot only while one is free (R147). -/
theorem State.room_of_grantsTicket {s : State} {t : Ticket} (h : s.grantsTicket t = true) : s.orders.length < 16 := by
  unfold State.grantsTicket State.freeSlots at h
  split at h <;> have := of_decide_eq_true h <;> omega

theorem State.keeps_starve (s : State) (t : Ticket) : s.Keeps (s.starve t) :=
  s.keeps_noteTicket _ _ (fun _ => rfl) (fun _ => rfl) fun _ => rfl

theorem State.keeps_noteEscalation (s : State) (t : Ticket) (n : RecNo) : s.Keeps (s.noteEscalation t n) :=
  s.keeps_noteTicket _ _ (fun _ => rfl) (fun _ => rfl) fun _ => rfl

theorem State.room_of_mayEnqueue {s : State} {n : RecNo} (h : s.mayEnqueue n = true) : s.jobs.length < 16 := by
  simp only [State.mayEnqueue, Bool.and_eq_true, decide_eq_true_eq] at h
  exact h.1

theorem State.keeps_escalate (s : State) (t : Ticket) : s.Keeps (s.escalate t) := by
  unfold State.escalate
  split
  · exact s.keeps_starve t
  · split
    · exact (s.keeps_promote _).trans (State.keeps_noteEscalation _ _ _)
    · split
      · next may =>
        exact (s.keeps_enqueue _ _ _ _ _ _ (State.room_of_mayEnqueue may)).trans (State.keeps_noteEscalation _ _ _)
      · exact s.keeps_starve t

theorem State.keeps_passWaiting {s : State} {t : Ticket} (ht : t ∈ s.tickets) (waiting : t.phase = .waiting) :
    s.Keeps (s.passWaiting t) := by
  unfold State.passWaiting
  split
  · split
    · split
      · next served =>
        obtain ⟨free, granted⟩ := Bool.and_eq_true_iff.1 served
        exact State.keeps_serve _ _ ht waiting free (State.room_of_grantsTicket granted)
      · exact s.keeps_noteTicket _ _ (fun _ => rfl) (fun _ => rfl) fun _ => rfl
    · exact .refl s
  · split
    · exact s.keeps_escalate t
    · split
      · exact .refl s
      · exact s.keeps_starve t

theorem State.keeps_passTicket (s : State) (n : Nat) : s.Keeps (s.passTicket n) := by
  unfold State.passTicket
  split
  · exact .refl s
  · next t found =>
    split
    · next waiting => exact State.keeps_passWaiting (List.mem_of_find?_eq_some found) waiting
    · exact .refl s

theorem State.keeps_grantFetch (s : State) (n : Nat) : s.Keeps (s.grantFetch n) := by
  unfold State.grantFetch
  split
  · exact .refl s
  · split
    · exact .refl s
    · split
      · exact .refl s
      · split
        · next claim =>
          exact (s.keeps_makeOrder_presetter _ _ _ claim.2.1).trans
            (State.keeps_changeJob _ _ _ (fun _ => rfl) fun _ => .inl rfl)
        · exact .refl s

theorem State.keeps_settle (s : State) (pass : Bool) : s.Keeps (s.settle pass) := by
  have passed : s.Keeps (if pass then s.issuePass else s) := by
    cases pass
    · exact .refl s
    · exact State.Keeps.foldl State.keeps_passTicket _ s
  exact passed.trans ((State.Keeps.foldl State.keeps_grantFetch _ _).trans (State.keeps_engineChoose _))

/-! ### The removal and the end of a job (R69, R73, R80 to R84) -/

theorem State.keeps_dropJob (s : State) (j : Job) : s.Keeps (s.dropJob j) := by
  unfold State.dropJob
  refine State.Keeps.trans ?_ (State.keeps_autoCalCheck _)
  split
  · exact (s.keeps_withoutJob _).trans (State.keeps_engineToIdle _)
  · exact s.keeps_withoutJob _

theorem State.keeps_withdrawFetch (s : State) (j : Job) : s.Keeps (s.withdrawFetch j) := by
  unfold State.withdrawFetch
  split
  · exact s.keeps_withoutOrder _
  · exact .refl s
  · exact .refl s

theorem State.keeps_withdrawJob (b s : State) (j : Job) : s.Keeps (b.withdrawJob s j) :=
  (s.keeps_withdrawFetch j).trans ((State.keeps_dropJob _ j).trans (State.keeps_settle _ _))

theorem State.keeps_failFetch (s : State) (j : Job) : s.Keeps (s.failFetch j) :=
  (s.keeps_appendLog _).trans (State.keeps_dropJob _ j)

theorem State.keeps_concludeJob (s : State) (j : Job) (st : Status) (l r u : Option Nat) :
    s.Keeps (s.concludeJob j st l r u) :=
  (s.keeps_appendLog _).trans ((State.keeps_dropJob _ j).trans (State.keeps_settle _ _))

/-- A prior state, or another in its place, is EMPTY only when one of the two is. -/
theorem prior_empty_of_getD {o : Option RecState} {st : RecState} (h : o.getD st = .empty) :
    o = some .empty ∨ st = .empty := by
  cases o with
  | none => exact .inr h
  | some _ => exact .inl (congrArg some h)

/-- The record of a job that ends without a measurement (R84). -/
theorem State.mayBecome_unmeasured {s : State} {j : Job} (hj : j ∈ s.jobs) (n : RecNo) :
    s.MayBecome n (unmeasured j (s.tool n)) := by
  unfold unmeasured
  split
  · refine { used := fun h => ?_ }
    dsimp only at h
    split at h
    · cases h
    · split at h
      · cases h
      · exact (prior_empty_of_getD h).elim (fun p => .inr (.inr ⟨j, hj, p⟩)) fun e => nomatch e
      · cases h
  · exact s.mayBecome_self n

/-- The record at the end of a PRESET job: its preset is written, and its state is no EMPTY one (R102 to R104). -/
theorem State.mayBecome_presetEnd (s : State) (n : RecNo) (j : Job) (m : Measured) (st : Status) (hall : Option Nat) :
    s.MayBecome n (presetEnd (s.tool n) j m st hall) := by
  unfold presetEnd
  refine { life := ?_, tag := .inl ?_, used := fun h => ?_, pocket := fun p h => .inl ?_ }
  · split <;> exact id
  · split <;> rfl
  · dsimp only at h
    split_ifs at h
  · revert h
    split <;> exact id

/-- The record at the end of a VERIFY job takes its prior state (R105). -/
theorem State.mayBecome_verifyEnd {s : State} {j : Job} (hj : j ∈ s.jobs) (n : RecNo) (st : Status) :
    s.MayBecome n (verifyEnd (s.tool n) j st) := by
  unfold verifyEnd
  refine { used := fun h => ?_ }
  dsimp only at h
  split at h
  · cases h
  · exact (prior_empty_of_getD h).elim (fun p => .inr (.inr ⟨j, hj, p⟩)) fun e => .inr (.inl ⟨e, rfl⟩)

theorem State.keeps_stopJob {s : State} {j : Job} (hj : j ∈ s.jobs) (st : Status) : s.Keeps (s.stopJob j st) := by
  unfold State.stopJob
  refine State.Keeps.trans ?_ (State.keeps_concludeJob _ j st _ _ _)
  split
  · exact .refl s
  · exact State.keeps_changeTool (State.mayBecome_unmeasured hj _)

theorem State.mem_of_currentJob? {s : State} {j : Job} (h : s.currentJob? = some j) : j ∈ s.jobs :=
  List.mem_of_find?_eq_some h

theorem State.keeps_abortCurrent (s : State) : s.Keeps s.abortCurrent := by
  unfold State.abortCurrent
  split
  · exact .refl s
  · next j current => exact State.keeps_stopJob (State.mem_of_currentJob? current) _

/-- The auto-calibrate check takes no job out (R114). -/
theorem State.mem_jobs_autoCalCheck {s : State} {j : Job} (h : j ∈ s.jobs) : j ∈ s.autoCalCheck.jobs := by
  unfold State.autoCalCheck
  split
  · exact State.mem_jobs_enqueue_of_mem h _ _ _ _ _ _
  · exact h

theorem State.keeps_computeJob {s : State} {j : Job} (hj : j ∈ s.jobs) (n : RecNo) : s.Keeps (s.computeJob j n) := by
  have checked : s.Keeps (if s.stale then s.autoCalCheck else s) ∧
      j ∈ (if s.stale then s.autoCalCheck else s).jobs := by
    split
    · exact ⟨s.keeps_autoCalCheck, State.mem_jobs_autoCalCheck hj⟩
    · exact ⟨.refl s, hj⟩
  unfold State.computeJob
  dsimp only
  generalize (if s.stale then s.autoCalCheck else s) = s₀ at checked
  refine checked.1.trans (State.Keeps.trans (State.keeps_changeTool ?_)
    ((State.keeps_engine _ _).trans (State.keeps_concludeJob _ j _ _ _ _)))
  split
  · exact State.mayBecome_presetEnd _ _ _ _ _ _
  · exact State.mayBecome_verifyEnd checked.2 _ _
  · exact State.mayBecome_self _ _

theorem State.keeps_reference (s : State) (r : Reference) : s.Keeps { s with reference := r } := {}

theorem State.keeps_calibrateJob (s : State) (j : Job) : s.Keeps (s.calibrateJob j) := by
  unfold State.calibrateJob
  dsimp only
  split <;> exact (s.keeps_reference _).trans (State.keeps_concludeJob _ _ _ _ _ _)

theorem State.keeps_finishJob {s : State} {j : Job} (hj : j ∈ s.jobs) : s.Keeps (s.finishJob j) := by
  unfold State.finishJob
  split
  · exact s.keeps_calibrateJob j
  · exact State.keeps_computeJob hj _

theorem State.keeps_completeStation {s : State} {j : Job} (hj : j ∈ s.jobs) (reduced : Bool) :
    s.Keeps (s.completeStation j reduced) := by
  unfold State.completeStation
  dsimp only
  split
  · exact (s.keeps_engine _).trans (State.keeps_finishJob hj)
  · exact s.keeps_engine _

end Sys2Proof.Machine

/-! PROOF. The owning rule of every request keeps every invariant. -/

namespace Sys2Proof.Machine

-- One proof after another: side by side their threads need more memory than the checks allow.
set_option Elab.async false

/-- What an owning rule does: its change keeps every invariant, and a refusal, codes 7 to 31, changes nothing (R12). -/
structure State.Answers (s : State) (q : State × Reply) : Prop where
  keeps   : s.Keeps q.1
  refusal : 7 ≤ q.2.code.code → q.1 = s

/-- A refusal, or a question's answer. -/
theorem State.Answers.same (s : State) (r : Reply) : s.Answers (s, r) := ⟨.refl s, fun _ => rfl⟩

theorem State.Answers.of_fst {s : State} {q : State × Reply} (h : q.1 = s) : s.Answers q := ⟨.of_eq h, fun _ => h⟩

/-- A granted change: its code is below 7 (R207). -/
theorem State.Answers.done {s t : State} {r : Reply} (keeps : s.Keeps t)
    (granted : Nat.blt r.code.code 7 = true := by exact rfl) : s.Answers (t, r) :=
  ⟨keeps, fun h => absurd h (Nat.not_le.2 (Nat.le_of_ble_eq_true granted))⟩

theorem State.Answers.okOrClamped {s t : State} (keeps : s.Keeps t) (b : Bool) (bytes : List Byte) :
    s.Answers (t, okOrClamped b bytes) := by
  cases b
  · exact .done keeps
  · exact .done keeps

/-! ### Tool records (R13 to R22) -/

theorem recallGate_ne_empty {st : RecState} (h : st ≠ .empty) (b : Bool) : recallGate b st ≠ .empty := by
  unfold recallGate
  split
  · exact nofun
  · exact h

theorem recallGate_presetDue_ne_empty (b : Bool) : recallGate b .presetDue ≠ .empty :=
  recallGate_ne_empty (st := .presetDue) nofun b

theorem State.answers_opRegister (r : BitVec 16) (tag : Tag) (cls : BitVec 16) (nl nr : BitVec 32)
    (lt rt ru we : BitVec 16) (f st sa m : Byte) (li : BitVec 24) (s : State) :
    s.Answers (opRegister r tag cls nl nr lt rt ru we f st sa m li s) := by
  unfold opRegister
  split
  · exact .same s _
  · next n _ =>
    split
    · exact .same s _
    · split
      · exact .same s _
      · split
        · exact .same s _
        · next free =>
          have fresh := (s.holder?_none tag).1 (by simpa using free)
          dsimp only
          refine .okOrClamped (State.keeps_changeTool ?_) _ _
          exact { life := fun _ => Nat.le_refl _, tag := .inr (.inr fresh), pocket := nofun
                  used := fun h => absurd h (recallGate_presetDue_ne_empty _) }

theorem State.answers_opRetire (r : BitVec 16) (s : State) : s.Answers (opRetire r s) := by
  unfold opRetire
  split
  · exact .same s _
  · next n _ =>
    dsimp only
    split
    · exact .same s _
    · split
      · exact .same s _
      · have blank : s.Keeps (s.changeTool n fun _ => ToolRecord.blank) :=
          State.keeps_changeTool { life := fun _ => Nat.le_refl _, tag := .inr (.inl rfl), used := fun _ => .inl rfl
                                   pocket := nofun }
        split
        · exact .done blank
        · exact .done (blank.trans (State.keeps_withdrawJob _ _ _))

theorem State.answers_opRelease (r : BitVec 16) (s : State) : s.Answers (opRelease r s) := by
  unfold opRelease
  split
  · exact .same s _
  · split
    · exact .same s _
    · split
      · exact .same s _
      · split
        · exact .same s _
        · dsimp only
          exact .done (State.keeps_changeTool {})

theorem State.answers_opResetLife (r : BitVec 16) (s : State) : s.Answers (opResetLife r s) := by
  unfold opResetLife
  split
  · exact .same s _
  · split
    · exact .same s _
    · dsimp only
      exact .done (State.keeps_changeTool
        { life := fun _ => Nat.le_refl _, used := fun h => absurd h (recallGate_presetDue_ne_empty _) })

/-- A RECONCILE target is no EMPTY state, and its pocket is one that no other record holds (R17). -/
theorem reconcileTarget_ok {s : State} {n : RecNo} {t p l m q : Nat} {st : RecState} {loc : Location}
    (h : reconcileTarget s n t p l m q = .ok (st, loc)) :
    st ≠ .empty ∧ ∀ c, loc = .crib c → ∀ k, k ≠ n → (s.tool k).loc ≠ .crib c := by
  unfold reconcileTarget at h
  split at h
  · split at h
    · cases h
    · split at h
      · cases h
      · next free =>
        cases h
        refine ⟨nofun, fun c e => ?_⟩
        cases e
        exact (s.pocketHeld_eq_false n _).1 (by simpa using free)
  · split at h
    · cases h; exact ⟨nofun, nofun⟩
    · split at h
      · cases h; exact ⟨nofun, nofun⟩
      · split at h
        · split at h
          · split at h
            · cases h
            · split at h
              · cases h
              · cases h; exact ⟨nofun, nofun⟩
          · cases h
        · cases h

theorem State.answers_opReconcile (r : BitVec 16) (t p l m q : Byte) (s : State) :
    s.Answers (opReconcile r t p l m q s) := by
  unfold opReconcile
  split
  · exact .same s _
  · split
    · exact .same s _
    · split
      · exact .same s _
      · next target =>
        obtain ⟨used, free⟩ := reconcileTarget_ok target
        dsimp only
        exact .done (State.keeps_changeTool
          { used := fun h => absurd h (recallGate_ne_empty used _), pocket := fun c h => .inr (free c h) })

theorem State.keeps_markRecalled (s : State) (n : RecNo) : s.Keeps (s.markRecalled n) :=
  State.keeps_changeTool { used := fun h => .inr (.inl ⟨h, rfl⟩) }

theorem State.keeps_quarantineRecalled (s : State) (n : RecNo) : s.Keeps (s.quarantineRecalled n) :=
  State.keeps_changeTool {}

theorem State.keeps_recallDue (s : State) (n : RecNo) : s.Keeps (s.recallDue n) := by
  unfold State.recallDue
  split
  · exact s.keeps_quarantineRecalled n
  · split
    · exact (s.keeps_quarantineRecalled n).trans (State.keeps_withdrawJob _ _ _)
    · split
      · exact (s.keeps_quarantineRecalled n).trans (State.keeps_withdrawJob _ _ _)
      · exact s.keeps_markRecalled n

theorem State.keeps_recallAllocated (s : State) (n : RecNo) : s.Keeps (s.recallAllocated n) := by
  unfold State.recallAllocated
  split
  · exact s.keeps_markRecalled n
  · next o found =>
    split
    · next linked =>
      have ho : o ∈ (s.quarantineRecalled n).orders := List.mem_of_find?_eq_some found
      exact (s.keeps_quarantineRecalled n).trans ((State.keeps_recalledTicket ho linked).trans (State.keeps_settle _ _))
    · exact s.keeps_markRecalled n
    · exact s.keeps_markRecalled n

theorem State.keeps_recallRecord (s : State) (n : RecNo) : s.Keeps (s.recallRecord n) := by
  unfold State.recallRecord
  split
  case h_1 | h_2 => exact s.keeps_recallDue n
  case h_3 => exact s.keeps_recallAllocated n
  case h_4 => exact .refl s
  all_goals exact s.keeps_markRecalled n

theorem State.answers_opAddRecall (tag : Tag) (s : State) : s.Answers (opAddRecall tag s) := by
  unfold opAddRecall
  split
  · exact .same s _
  · next nonzero =>
    split
    · exact .same s _
    · next absent =>
      split
      · exact .same s _
      · next room =>
        have listed : s.Keeps { s with recalls := s.recalls ++ [tag] } :=
          { sizes := fun h => ⟨by simp; omega, h.jobs, h.log, h.tickets, h.orders⟩
            recalls := fun h => ⟨h.1.append (List.nodup_singleton tag) (by simpa using absent), by
              simpa using ⟨h.2, fun e => nonzero e.symm⟩⟩ }
        dsimp only
        split
        · exact .done listed
        · exact .done (listed.trans (State.keeps_recallRecord _ _))

theorem State.answers_opRemoveRecall (tag : Tag) (s : State) : s.Answers (opRemoveRecall tag s) := by
  unfold opRemoveRecall
  split
  · exact .same s _
  · split
    · exact .same s _
    · have unlisted : s.Keeps { s with recalls := s.recalls.filter fun t => t != tag } :=
        { sizes := fun h => ⟨(List.length_filter_le _ _).trans h.recalls, h.jobs, h.log, h.tickets, h.orders⟩
          recalls := fun h => ⟨h.1.filter _, fun e => h.2 (List.mem_filter.1 e).1⟩ }
      dsimp only
      split
      · exact .done unlisted
      · exact .done (unlisted.trans (State.keeps_changeTool { used := fun h => .inr (.inl ⟨h, rfl⟩) }))

/-! ### Record access (R28 to R37) -/

/-- Entries write no state, tag or location (R33, R34). -/
theorem writeNumber_same (r : ToolRecord) (f v : Nat) :
    (writeNumber r f v).state = r.state ∧ (writeNumber r f v).tag = r.tag ∧ (writeNumber r f v).loc = r.loc := by
  unfold writeNumber
  split <;> exact ⟨rfl, rfl, rfl⟩

theorem applyEntry_same (a : Applied) (e : Entry) : (applyEntry a e).record.state = a.record.state ∧
    (applyEntry a e).record.tag = a.record.tag ∧ (applyEntry a e).record.loc = a.record.loc := by
  unfold applyEntry
  split
  · exact ⟨rfl, rfl, rfl⟩
  · split
    · exact ⟨rfl, rfl, rfl⟩
    · split
      · exact ⟨rfl, rfl, rfl⟩
      · dsimp only
        split
        · exact writeNumber_same _ _ _
        · exact ⟨rfl, rfl, rfl⟩

theorem foldl_applyEntry_same : ∀ (es : List Entry) (a : Applied),
    (es.foldl applyEntry a).record.state = a.record.state ∧
    (es.foldl applyEntry a).record.tag = a.record.tag ∧ (es.foldl applyEntry a).record.loc = a.record.loc
  | [], _ => ⟨rfl, rfl, rfl⟩
  | e :: es, a => by
    obtain ⟨st, tag, loc⟩ := foldl_applyEntry_same es (applyEntry a e)
    obtain ⟨st', tag', loc'⟩ := applyEntry_same a e
    exact ⟨st.trans st', tag.trans tag', loc.trans loc'⟩

/-- What an edit leaves of a record (R8, R9, R34). -/
theorem State.mayBecome_edited (s : State) (n : RecNo) (es : List Entry) :
    s.MayBecome n (editConsequences (s.tool n) (applyEntries (s.tool n) es).record) := by
  obtain ⟨st, tag, loc⟩ := foldl_applyEntry_same es { record := s.tool n, notApplied := 0, ranged := [] }
  refine { life := fun _ => min_le_right _ _, tag := .inl tag, used := fun h => .inr (.inl ⟨?_, tag⟩)
           pocket := fun p h => .inl (loc ▸ h) }
  unfold editConsequences at h
  dsimp only at h
  split at h
  · exact absurd h (recallGate_presetDue_ne_empty _)
  · exact st ▸ h

theorem State.keeps_setEdit (s : State) (l : LinkId) (e : Option Edit) :
    s.Keeps (s.changeLink l fun k => { k with edit := e }) := State.keeps_changeLink rfl

theorem State.answers_commitEdit (l : LinkId) (e : Edit) (s : State) : s.Answers (commitEdit l e s) := by
  have committed : s.Keeps ((s.changeTool e.record fun _ =>
      editConsequences (s.tool e.record) (applyEntries (s.tool e.record) e.entries).record).changeLink l
        fun k => { k with edit := none }) :=
    (State.keeps_changeTool (s.mayBecome_edited _ _)).trans (State.keeps_setEdit _ _ _)
  have granted : ∀ b : Bool, Nat.blt (if b then ReplyCode.committedTruncated else .committed).code 7 = true := by decide
  unfold commitEdit
  dsimp only
  split
  · exact .done (committed.trans ((State.keeps_settle _ _).trans (State.keeps_asOneChange _ _ _))) (granted _)
  · exact .done committed (granted _)

theorem State.answers_opOpenEdit (l : LinkId) (r : BitVec 16) (f g m : Byte) (v : BitVec 16) (s : State) :
    s.Answers (opOpenEdit l r f g m v s) := by
  unfold opOpenEdit
  split
  · exact .same s _
  · split
    · exact .same s _
    · split
      · exact .same s _
      · split
        · exact .same s _
        · exact .done (s.keeps_setEdit _ _)

theorem State.answers_opEditData (l : LinkId) (bytes : List Byte) (s : State) : s.Answers (opEditData l bytes s) := by
  unfold opEditData
  split
  · exact .same s _
  · split
    · exact .same s _
    · exact .done (s.keeps_setEdit _ _)

theorem State.answers_opCloseEdit (l : LinkId) (s : State) : s.Answers (opCloseEdit l s) := by
  unfold opCloseEdit
  split
  · exact .same s _
  · split
    · exact .same s _
    · split
      · exact .same s _
      · exact State.answers_commitEdit _ _ _

theorem State.answers_opAbortEdit (l : LinkId) (s : State) : s.Answers (opAbortEdit l s) := by
  unfold opAbortEdit
  split
  · exact .same s _
  · exact .done (s.keeps_setEdit _ _)

/-! ### Measurement jobs (R65 to R87) -/

theorem State.answers_measureGauge (l : LinkId) (u o : Bool) (s : State) : s.Answers (measureGauge l u o s) := by
  unfold measureGauge
  split
  · exact .same s _
  · split
    · exact .same s _
    · split
      · exact .same s _
      · split
        · exact .same s _
        · next room => exact .done ((s.keeps_enqueue _ _ _ _ _ _ (by omega)).trans (State.keeps_settle _ _))

theorem State.answers_measureTool (l : LinkId) (k : JobKind) (r : BitVec 16) (u o : Bool) (f st sa : Byte) (s : State) :
    s.Answers (measureTool l k r u o f st sa s) := by
  unfold measureTool
  split
  · exact .same s _
  · next n _ =>
    dsimp only
    split
    · exact .same s _
    · split
      · exact .same s _
      · split
        · exact .same s _
        · split
          · exact .same s _
          · split
            · exact .same s _
            · next room =>
              refine .done (State.Keeps.trans ?_ (State.keeps_settle _ _))
              split
              · have due : s.Keeps (s.changeTool n fun r => { r with state := .presetDue }) := State.keeps_changeTool {}
                exact due.trans (State.keeps_enqueue _ _ _ _ _ _ _ (Nat.lt_of_not_le room))
              · exact s.keeps_enqueue _ _ _ _ _ _ (Nat.lt_of_not_le room)

theorem State.answers_opMeasure (l : LinkId) (k : Byte) (r : BitVec 16) (u m f st sa : Byte) (s : State) :
    s.Answers (opMeasure l k r u m f st sa s) := by
  unfold opMeasure
  split
  · exact .same s _
  · split
    · exact .same s _
    · split
      · exact State.answers_measureGauge _ _ _ _
      · exact State.answers_measureTool _ _ _ _ _ _ _ _ _
      · exact State.answers_measureTool _ _ _ _ _ _ _ _ _

theorem State.answers_opCancelJob (j : BitVec 16) (s : State) : s.Answers (opCancelJob j s) := by
  unfold opCancelJob
  split
  · exact .same s _
  · split
    · exact .done (State.keeps_withdrawJob _ _ _)
    · exact .same s _

theorem State.mem_of_currentNumbered? {s : State} {n : Nat} {j : Job} (h : s.currentNumbered? n = some j) :
    j ∈ s.jobs := by
  unfold State.currentNumbered? at h
  split at h
  · cases h
  · split at h
    · cases h
    · next current =>
      split at h
      · cases h; exact State.mem_of_currentJob? current
      · cases h

/-- MOUNT saves the state of a record that carries a tag (R78). -/
theorem State.keeps_mounted {s : State} {j : Job} (tagged : s.jobTag j ≠ 0) : s.Keeps (s.mounted j) := by
  unfold State.mounted
  dsimp only
  split
  · exact s.keeps_engine _
  · next r named =>
    have tagged : (s.tool r).tag ≠ 0 := by simpa [State.jobTag, named] using tagged
    refine (s.keeps_engine _).trans (State.Keeps.trans (State.keeps_changeJob _ _ _ ?_ ?_) (State.keeps_changeTool {}))
    · exact fun _ => rfl
    · exact fun _ => .inr ⟨r, tagged, rfl⟩

theorem State.answers_opMount (job : BitVec 16) (tag : Tag) (s : State) : s.Answers (opMount job tag s) := by
  unfold opMount
  split
  · exact .same s _
  · split
    · exact .same s _
    · split
      · exact .same s _
      · next nonzero =>
        split
        · exact .same s _
        · next same => exact .done (State.keeps_mounted fun e => nonzero ((not_not.1 same).trans e))

theorem State.answers_opArmStation (job : BitVec 16) (n : Byte) (s : State) : s.Answers (opArmStation job n s) := by
  unfold opArmStation
  split
  · exact .same s _
  · split
    · exact .same s _
    · split
      · exact .same s _
      · exact .done {}

theorem State.answers_opAbortJob (job : BitVec 16) (s : State) : s.Answers (opAbortJob job s) := by
  unfold opAbortJob
  split
  · exact .same s _
  · next current => exact .done (State.keeps_stopJob (State.mem_of_currentNumbered? current) _)

theorem State.answers_opGetResult (s : State) : s.Answers (opGetResult s) := by
  unfold opGetResult
  split
  · exact .same s _
  · exact .done {}

/-! ### The reference, the hall clock and the settings (R110 to R112, R198, R208) -/

theorem State.answers_opSetGauge (t : Tag) (l r : BitVec 32) (n m : Byte) (s : State) :
    s.Answers (opSetGauge t l r n m s) := by
  unfold opSetGauge
  split
  · exact .same s _
  · exact .okOrClamped ((s.keeps_reference _).trans ((State.keeps_autoCalCheck _).trans (State.keeps_settle _ _))) _ _

theorem State.answers_opClearReference (s : State) : s.Answers (opClearReference s) :=
  .done ((s.keeps_reference _).trans ((State.keeps_autoCalCheck _).trans (State.keeps_settle _ _)))

theorem State.answers_opSetTime (t : BitVec 32) (s : State) : s.Answers (opSetTime t s) := by
  have set : s.Keeps (s.withTime t.toNat) :=
    { hall := fun _ => ⟨nofun, Nat.le_of_lt_succ t.isLt⟩ }
  exact .done (set.trans ((State.keeps_autoCalCheck _).trans (State.keeps_settle _ _)))

theorem State.keeps_activate (s : State) (i : SettingId) (v : Nat) : s.Keeps (s.activate i v) := by
  unfold State.activate
  split
  · exact .refl s
  · cases i <;> exact {}

theorem State.answers_opSetSetting (n : Byte) (v : BitVec 32) (s : State) : s.Answers (opSetSetting n v s) := by
  unfold opSetSetting
  split
  · exact .same s _
  · next i _ =>
    dsimp only
    split
    · split
      · exact .okOrClamped (s.keeps_activate _ _) _ _
      · exact .done {}
    · have written : s.Keeps { s with settings := s.settings.put i (i.ranged v.toNat) } := {}
      unfold State.writeAtOnce settingConsequence
      split
      · exact .okOrClamped (written.trans ((State.keeps_autoCalCheck _).trans (State.keeps_settle _ _))) _ _
      · split
        · exact .okOrClamped (written.trans (State.keeps_settle _ _)) _ _
        · exact .okOrClamped written _ _

/-! ### Tickets, orders and deposits (R125 to R164) -/

theorem State.answers_opRequestTool (l : LinkId) (m p : Byte) (c : BitVec 16) (life : BitVec 24) (u : Byte)
    (s : State) :
    s.Answers (opRequestTool l m p c life u s) := by
  unfold opRequestTool
  split
  · exact .same s _
  · split
    · exact .same s _
    · split
      · exact .same s _
      · next room => exact .done ((s.keeps_placeTicket _ _ _ _ _ _ (by omega)).trans (State.keeps_settle _ _))

theorem State.answers_opWithdrawTicket (l : LinkId) (n : BitVec 16) (s : State) :
    s.Answers (opWithdrawTicket l n s) := by
  unfold opWithdrawTicket
  split
  · exact .same s _
  · next t found =>
    split
    · exact .same s _
    · split
      · exact .same s _
      · next idle => exact .done (State.keeps_withoutTicket (List.mem_of_find?_eq_some found) (by simpa using idle))

theorem State.answers_opFetchOrder (s : State) : s.Answers (opFetchOrder s) := by
  unfold opFetchOrder
  split
  · exact .same s _
  · exact .done (s.keeps_changeOrder _ _ fun _ => rfl)

theorem State.keeps_deliver {s : State} {o : Order} (ho : o ∈ s.orders) : s.Keeps (s.deliver o) := by
  unfold State.deliver
  split
  · next n linked =>
    have moved : s.Keeps (s.changeTool o.record fun r => { r with state := .inTransit, loc := .transit }) :=
      State.keeps_changeTool { pocket := nofun }
    dsimp only
    split
    · exact moved.trans (State.keeps_withoutOrder _ _)
    · next t found =>
      have number : t.number = n := by simpa using List.find?_some found
      subst number
      have held := List.mem_of_find?_eq_some found
      exact moved.trans (State.keeps_deliveredTicket (s := s.changeTool o.record _) ho held linked _)
  · have moved : s.Keeps (s.changeTool o.record fun r => { r with loc := .presetter }) :=
      State.keeps_changeTool { used := fun h => .inr (.inl ⟨h, rfl⟩), pocket := nofun }
    refine moved.trans ((State.keeps_withoutOrder _ _).trans (State.keeps_changeJob _ _ _ ?_ ?_))
    · exact fun _ => rfl
    · exact fun _ => .inl rfl

theorem State.keeps_fail {s : State} {o : Order} (ho : o ∈ s.orders) (fault : LastFault) :
    s.Keeps (s.fail o fault) := by
  have lost : s.Keeps (s.changeTool o.record fun r =>
      { r with state := .check, loc := .unknown, lastFault := fault }) :=
    State.keeps_changeTool { pocket := nofun }
  unfold State.fail
  dsimp only
  split
  · next linked => exact lost.trans (State.keeps_failedTicket (s := s.changeTool o.record _) ho linked)
  · have left := lost.trans (State.keeps_withoutOrder _ o.number)
    split
    · exact left
    · exact left.trans (State.keeps_failFetch _ _)

theorem State.keeps_retire {s : State} {o : Order} (ho : o ∈ s.orders) (w : CribOutcome) : s.Keeps (s.retire o w) := by
  cases w with
  | delivered => exact (State.keeps_deliver ho).trans (State.keeps_settle _ _)
  | failed fault => exact (State.keeps_fail ho fault).trans (State.keeps_settle _ _)

theorem State.answers_opOrderDone (n : BitVec 16) (w : Byte) (s : State) : s.Answers (opOrderDone n w s) := by
  unfold opOrderDone
  split
  · exact .same s _
  · split
    · exact .same s _
    · next found =>
      split
      · exact .same s _
      · exact .done (State.keeps_retire (List.mem_of_find?_eq_some found) _)

theorem State.keeps_enqueueReturn (s : State) (n : RecNo) (b : Bool) : s.Keeps (s.enqueueReturn n b).1 := by
  unfold State.enqueueReturn
  split
  · next may =>
    dsimp only
    exact s.keeps_enqueue _ _ _ _ _ _ (State.room_of_mayEnqueue (Bool.and_eq_true_iff.1 may).2)
  · exact .refl s

theorem State.keeps_takeBack (s : State) (n : RecNo) : s.Keeps (s.takeBack n) := by
  unfold State.takeBack
  split
  · exact .refl s
  · split
    · refine State.Keeps.trans (s.keeps_changeJob _ _ ?_ ?_) (State.keeps_engineToIdle _)
      · exact fun _ => rfl
      · exact fun _ => .inl rfl
    · exact .refl s

/-- A deposit target is no EMPTY state (R160, R161, R163). -/
theorem depositTarget_ne_empty {r : ToolRecord} {st : RecState} (h : depositTarget r = some st) : st ≠ .empty := by
  unfold depositTarget at h
  split at h
  · next kept =>
    cases h
    rcases kept.2 with e | e | e <;> rw [e] <;> exact nofun
  · split at h
    · split at h
      · cases h; exact nofun
      · split at h <;> cases h <;> exact nofun
    · split at h
      · cases h; exact nofun
      · cases h

theorem State.keeps_depositAt {s : State} {n : RecNo} {p : Fin 240} {st : RecState} (used : st ≠ .empty)
    (free : ∀ k, k ≠ n → (s.tool k).loc ≠ .crib p) : s.Keeps (s.depositAt n p st).1 := by
  have placed : s.Keeps (s.changeTool n fun r => { r with state := depositState r st, loc := .crib p }) := by
    refine State.keeps_changeTool { used := fun h => absurd h ?_, pocket := fun q h => .inr fun k hk => ?_ }
    · dsimp only [depositState]
      split
      · exact nofun
      · exact used
    · cases h
      exact free k hk
  exact placed.trans ((State.keeps_enqueueReturn _ _ _).trans ((State.keeps_takeBack _ _).trans
    ((State.keeps_settle _ _).trans (State.keeps_asOneChange _ _ _))))

theorem State.answers_opDeposit (tag : Tag) (p : Byte) (s : State) : s.Answers (opDeposit tag p s) := by
  unfold opDeposit
  split
  · exact .same s _
  · split
    · exact .same s _
    · split
      · exact .same s _
      · split
        · exact .same s _
        · next target =>
          split
          · exact .same s _
          · next free =>
            exact .done (State.keeps_depositAt (depositTarget_ne_empty target)
              ((s.pocketHeld_eq_false _ _).1 (by simpa using free)))

/-! ### Handoffs and tool life (R171 to R180) -/

theorem State.answers_opFetchHandoff (l : LinkId) (s : State) : s.Answers (opFetchHandoff l s) := by
  unfold opFetchHandoff
  split
  · exact .same s _
  · exact .done (s.keeps_changeHandoff _ _)

theorem State.keeps_retireHandoff {s : State} {h : Handoff} {f : ToolRecord → ToolRecord}
    (hf : s.MayBecome h.record (f (s.tool h.record))) : s.Keeps (s.retireHandoff h f) :=
  have left : (s.withoutHandoff h.number).MayBecome h.record (f (s.tool h.record)) :=
    ⟨hf.life, hf.tag, hf.used, hf.pocket⟩
  (s.keeps_withoutHandoff _).trans ((State.keeps_changeTool left).trans (State.keeps_settle _ _))

theorem State.answers_opConfirmLoad (l : LinkId) (n : BitVec 16) (t : Tag) (s : State) :
    s.Answers (opConfirmLoad l n t s) := by
  unfold opConfirmLoad
  split
  · exact .same s _
  · split
    · exact .same s _
    · split
      · exact .same s _
      · split
        · exact .same s _
        · exact .done (State.keeps_retireHandoff { pocket := nofun })

theorem State.answers_opRejectHandoff (l : LinkId) (n : BitVec 16) (s : State) : s.Answers (opRejectHandoff l n s) := by
  unfold opRejectHandoff
  split
  · exact .same s _
  · split
    · exact .same s _
    · exact .done (State.keeps_retireHandoff { pocket := nofun })

theorem State.answers_opReportUsage (l : LinkId) (r : BitVec 16) (a : BitVec 24) (s : State) :
    s.Answers (opReportUsage l r a s) := by
  unfold opReportUsage
  split
  · exact .same s _
  · dsimp only
    exact .done (State.keeps_changeTool
      { life := fun h => (Nat.sub_le _ _).trans h, used := fun h => .inr (.inl ⟨h, rfl⟩) })

theorem State.answers_opReportUnload (l : LinkId) (r : BitVec 16) (s : State) : s.Answers (opReportUnload l r s) := by
  unfold opReportUnload
  split
  · exact .same s _
  · dsimp only
    exact .done (State.keeps_changeTool { pocket := nofun })

/-! ### Masks -/

theorem State.answers_opSetMask (l : LinkId) (n : Byte) (es : List Byte) (s : State) :
    s.Answers (opSetMask l n es s) := by
  unfold opSetMask
  split
  · dsimp only
    exact .done (State.keeps_changeLink rfl)
  · exact .same s _

end Sys2Proof.Machine

/-! PROOF. Every request, frame and event, the start and the idle second keep every invariant: so does every step. -/

namespace Sys2Proof.Machine

-- One proof after another: side by side their threads need more memory than the checks allow.
set_option Elab.async false

/-! ### Questions change nothing (R12) -/

theorem opListRecall_fst (k n : Byte) (s : State) : (opListRecall k n s).1 = s := by
  unfold opListRecall
  split <;> rfl

theorem opReadRecord_fst (r : BitVec 16) (f n : Byte) (s : State) : (opReadRecord r f n s).1 = s := by
  unfold opReadRecord
  split
  · rfl
  · split
    · rfl
    · split <;> rfl

theorem opGetJob_fst (s : State) : (opGetJob s).1 = s := by
  unfold opGetJob
  split
  · rfl
  · split <;> rfl

theorem opReadResults_fst (k n : Byte) (s : State) : (opReadResults k n s).1 = s := by
  unfold opReadResults
  split <;> rfl

theorem opIssueStatus_fst (l : LinkId) (n : BitVec 16) (s : State) : (opIssueStatus l n s).1 = s := by
  unfold opIssueStatus
  split
  · rfl
  · split <;> rfl

theorem opReadHandoff_fst (l : LinkId) (n : BitVec 16) (s : State) : (opReadHandoff l n s).1 = s := by
  unfold opReadHandoff
  split
  · rfl
  · split <;> rfl

theorem opGetSetting_fst (n : Byte) (s : State) : (opGetSetting n s).1 = s := by
  unfold opGetSetting
  split <;> rfl

/-! ### Requests and frames (R203 to R207) -/

/-- The owning rule of every request keeps the invariants, and changes nothing when it refuses (R12, R207). -/
theorem State.answers_ownRule (i : Instr) (s : State) : s.Answers (ownRule i s) := by
  cases i
  case register => exact s.answers_opRegister ..
  case retire => exact s.answers_opRetire ..
  case release => exact s.answers_opRelease ..
  case resetLife => exact s.answers_opResetLife ..
  case reconcile => exact s.answers_opReconcile ..
  case addRecall => exact s.answers_opAddRecall ..
  case removeRecall => exact s.answers_opRemoveRecall ..
  case listRecall => exact .of_fst (opListRecall_fst ..)
  case readRecord => exact .of_fst (opReadRecord_fst ..)
  case openEdit => exact s.answers_opOpenEdit ..
  case editData => exact s.answers_opEditData ..
  case closeEdit => exact s.answers_opCloseEdit ..
  case abortEdit => exact s.answers_opAbortEdit ..
  case readAxes => exact .done {}
  case measure => exact s.answers_opMeasure ..
  case cancelJob => exact s.answers_opCancelJob ..
  case getJob => exact .of_fst (opGetJob_fst ..)
  case mount => exact s.answers_opMount ..
  case armStation => exact s.answers_opArmStation ..
  case abortJob => exact s.answers_opAbortJob ..
  case getResult => exact s.answers_opGetResult
  case readResults => exact .of_fst (opReadResults_fst ..)
  case setGauge => exact s.answers_opSetGauge ..
  case clearReference => exact s.answers_opClearReference
  case requestTool => exact s.answers_opRequestTool ..
  case withdrawTicket => exact s.answers_opWithdrawTicket ..
  case issueStatus => exact .of_fst (opIssueStatus_fst ..)
  case fetchOrder => exact s.answers_opFetchOrder
  case orderDone => exact s.answers_opOrderDone ..
  case deposit => exact s.answers_opDeposit ..
  case fetchHandoff => exact s.answers_opFetchHandoff ..
  case confirmLoad => exact s.answers_opConfirmLoad ..
  case rejectHandoff => exact s.answers_opRejectHandoff ..
  case reportUsage => exact s.answers_opReportUsage ..
  case reportUnload => exact s.answers_opReportUnload ..
  case readHandoff => exact .of_fst (opReadHandoff_fst ..)
  case setMask => exact s.answers_opSetMask ..
  case clearRetentionLost => exact .done {}
  case setTime => exact s.answers_opSetTime ..
  case setSetting => exact s.answers_opSetSetting ..
  case getSetting => exact .of_fst (opGetSetting_fst ..)
  all_goals exact .same s _

theorem State.answers_judgeParams (l : LinkId) (f : Frame) (s : State) : s.Answers (judgeParams l f s) := by
  unfold judgeParams
  split
  · exact .same s _
  · exact s.answers_ownRule _

theorem State.answers_byRole {op : State → State × Reply} (h : ∀ s, State.Answers s (op s)) (l : LinkId) (code : Nat)
    (s : State) : s.Answers (s.byRole l code op) := by
  unfold State.byRole
  split
  · exact h s
  · exact .same s _

theorem State.answers_judgeFrame (l : LinkId) (f : Frame) (s : State) : s.Answers (judgeFrame l f s) := by
  unfold judgeFrame
  split
  · exact .same s _
  · split
    · exact State.answers_byRole (State.answers_judgeParams l f) _ _ s
    · exact .same s _

theorem State.keeps_handIn {judge : State → State × Reply} (h : ∀ s, State.Answers s (judge s)) (l : LinkId) (f : Frame)
    (s : State) : s.Keeps (s.handIn l f judge) := by
  unfold State.handIn
  split
  · exact .refl s
  · split
    · exact State.keeps_changeLink rfl
    · exact (h s).keeps.trans (State.keeps_changeLink rfl)

theorem State.keeps_received (s : State) (l : LinkId) : s.Keeps (s.received l) := State.keeps_changeLink rfl

theorem State.keeps_submit (i : Instr) (c : Caller) (s : State) : s.Keeps (State.submit i c (ownRule i) s) := by
  unfold State.submit
  split
  · exact .refl s
  · exact (s.keeps_received _).trans (State.keeps_handIn (State.answers_byRole (State.answers_ownRule i) _ _) _ _ _)

theorem State.keeps_undefinedFunction (c : Caller) (function : Byte) (params : List Byte) (s : State) :
    s.Keeps (s.undefinedFunction c function params) := by
  unfold State.undefinedFunction
  split
  · exact .refl s
  · exact (s.keeps_received _).trans (State.keeps_handIn (State.answers_judgeFrame _ _) _ _ _)

theorem State.keeps_completeFrame (l : LinkId) (body : List Byte) (check : BitVec 16) (s : State) :
    s.Keeps (s.completeFrame l body check) := by
  unfold State.completeFrame
  dsimp only
  split
  · split
    · exact (s.keeps_received _).trans (State.keeps_handIn (State.answers_judgeFrame _ _) _ _ _)
    · exact s.keeps_received _
  · exact s.keeps_received _

theorem State.keeps_frameReceived (l : LinkId) (body : List Byte) (check : BitVec 16) (s : State) :
    s.Keeps (s.frameReceived l body check) := by
  unfold State.frameReceived
  split
  · exact .refl s
  · exact s.keeps_completeFrame _ _ _

theorem State.keeps_setReceiver (s : State) (l : LinkId) (r : Receiver) : s.Keeps (s.setReceiver l r) :=
  State.keeps_changeLink rfl

theorem State.keeps_receiveByte (l : LinkId) (b : Byte) (s : State) : s.Keeps (s.receiveByte l b) := by
  unfold State.receiveByte
  split
  · exact s.keeps_setReceiver _ _
  · exact s.keeps_setReceiver _ _
  · dsimp only
    split
    · exact s.keeps_completeFrame _ _ _
    · exact s.keeps_setReceiver _ _

theorem State.keeps_characterReceived (l : LinkId) (data : Byte) (stop : Bool) (s : State) :
    s.Keeps (s.characterReceived l data stop) := by
  unfold State.characterReceived
  split
  · exact .refl s
  · split
    · exact s.keeps_receiveByte _ _
    · exact State.keeps_changeLink rfl

theorem State.keeps_receiveGap (s : State) (l : LinkId) : s.Keeps (s.receiveGap l) := State.keeps_changeLink rfl

theorem State.keeps_lineToMark (s : State) (l : LinkId) : s.Keeps (s.lineToMark l) := State.keeps_changeLink rfl

theorem State.keeps_answerSent (l : LinkId) (s : State) : s.Keeps (s.answerSent l) := by
  unfold State.answerSent
  split
  · exact .refl s
  · split
    · exact State.keeps_changeLink rfl
    · refine State.Keeps.trans ?_ ((State.answers_judgeFrame l _ _).keeps.trans (State.keeps_changeLink rfl))
      exact State.keeps_changeLink rfl

theorem State.keeps_linkBreak (l : LinkId) (s : State) : s.Keeps (s.linkBreak l) := by
  have broken : s.Keeps (s.changeLink l Link.broken) := State.keeps_changeLink rfl
  unfold State.linkBreak
  split
  · exact .refl s
  · dsimp only
    split
    · exact broken.trans ((State.keeps_abortCurrent _).trans {})
    · exact broken

/-! ### Sensors, timers and lines (R41 to R54, R81, R118, R150, R154, R176, R197) -/

theorem State.keeps_capture (s : State) (c : Capture) (n : Lines) : s.Keeps { s with capture := c, lines := n } := {}

theorem State.keeps_encoderStep (e : Encoder) (p : Fin 4) (s : State) : s.Keeps (s.encoderStep e p) := by
  unfold State.encoderStep
  dsimp only
  split
  · exact .refl s
  · exact {}
  · exact {}
  · unfold State.illegalStep
    dsimp only
    split <;> exact {}

theorem State.keeps_indexPulse (s : State) : s.Keeps s.indexPulse := by
  unfold State.indexPulse
  dsimp only
  split <;> exact {}

theorem State.keeps_judgeSample {s : State} {j : Job} (hj : j ∈ s.jobs) (x : Sample) : s.Keeps (s.judgeSample j x) := by
  unfold State.judgeSample
  dsimp only
  split
  · split
    · refine (s.keeps_capture _ s.lines).trans (State.keeps_completeStation ?_ _)
      exact hj
    · exact s.keeps_capture _ s.lines
  · exact s.keeps_capture _ s.lines

theorem State.keeps_offer (s : State) (h : Latch) : s.Keeps (s.offer h) := by
  unfold State.offer
  split
  · exact .refl s
  · next current =>
    split
    · exact State.keeps_judgeSample (State.mem_of_currentJob? current) _
    · exact .refl s

theorem State.keeps_qualify (s : State) (h : Latch) : s.Keeps (s.qualify h) :=
  (s.keeps_capture _ s.lines).trans (State.keeps_offer _ h)

theorem State.keeps_edgeActive (s : State) : s.Keeps s.edgeActive := by
  unfold State.edgeActive
  split
  · exact .refl s
  · dsimp only
    split
    · split
      · exact (s.keeps_capture s.capture _).trans (State.keeps_qualify _ _)
      · exact {}
    · exact {}
    · exact {}
    · exact {}
    · exact {}

theorem State.keeps_edgeInactive (s : State) : s.Keeps s.edgeInactive := by
  unfold State.edgeInactive
  split
  · exact .refl s
  · dsimp only
    split
    · exact {}
    · split <;> exact {}
    · exact {}
    · exact {}
    · exact {}

theorem State.keeps_dwellEnd (s : State) : s.Keeps s.dwellEnd := by
  unfold State.dwellEnd
  split
  · exact s.keeps_qualify _
  all_goals exact .refl s

theorem State.keeps_deadTimeEnd (s : State) : s.Keeps s.deadTimeEnd := by
  unfold State.deadTimeEnd
  split
  · exact {}
  all_goals exact .refl s

theorem State.keeps_guardOpens (s : State) : s.Keeps s.guardOpens := by
  unfold State.guardOpens
  split
  · exact .refl s
  · exact {}

theorem State.keeps_guardCloses (s : State) : s.Keeps s.guardCloses := by
  unfold State.guardCloses
  split
  · exact {}
  · exact .refl s

theorem State.keeps_stationExpires (s : State) : s.Keeps s.stationExpires := by
  unfold State.stationExpires
  split
  · exact .refl s
  · next j current =>
    have hj := State.mem_of_currentJob? current
    split
    · exact .refl s
    · split
      · refine (s.keeps_engine _).trans (State.keeps_stopJob ?_ _)
        exact hj
      · exact State.keeps_completeStation hj _

theorem State.keeps_doorOpens (s : State) : s.Keeps s.doorOpens := by
  unfold State.doorOpens
  split
  · exact .refl s
  · exact {}

theorem State.keeps_doorCloses (s : State) : s.Keeps s.doorCloses := by
  unfold State.doorCloses
  split
  · exact (s.keeps_capture s.capture _).trans (State.keeps_settle _ _)
  · exact .refl s

theorem State.keeps_dispenseExpires (s : State) (n : Nat) : s.Keeps (s.dispenseExpires n) := by
  unfold State.dispenseExpires
  split
  · exact .refl s
  · next found =>
    split
    · exact State.keeps_retire (List.mem_of_find?_eq_some found) _
    · exact .refl s

theorem State.keeps_loadExpires (s : State) (n : Nat) : s.Keeps (s.loadExpires n) := by
  unfold State.loadExpires
  split
  · exact .refl s
  · split
    · exact State.keeps_retireHandoff { pocket := nofun }
    · exact .refl s

theorem State.keeps_advanceHall (s : State) : s.Keeps s.advanceHall := by
  unfold State.advanceHall
  split
  · next running =>
    obtain ⟨set, below⟩ := Bool.and_eq_true_iff.1 running
    have advanced : s.Keeps { s with hall := { s.hall with count := s.hall.count + 1 } } :=
      { hall := fun _ => ⟨fun unset => absurd set (by simpa using unset), of_decide_eq_true below⟩ }
    dsimp only
    split
    · exact advanced.trans ((State.keeps_autoCalCheck _).trans (State.keeps_settle _ _))
    · exact advanced
  · exact .refl s

theorem State.keeps_agePending (s : State) : s.Keeps s.agePending := by
  unfold State.agePending
  split
  · exact {}
  · exact .refl s

/-! ### Power and the idle second (R212, R213; log 5) -/

theorem Order.link_secondPasses (o : Order) : o.secondPasses.link = o.link := by
  unfold Order.secondPasses
  split <;> rfl

theorem State.keeps_idleSecond (s : State) : s.Keeps s.idleSecond := by
  have links : s.Keeps { s with links := s.links.map Link.secondPasses } :=
    State.keeps_of_roles fun l => by simp [State.link, Link.secondPasses]
  have linked : ∀ o ∈ s.orders.map Order.secondPasses, ∃ q ∈ s.orders, o.link = q.link := fun o ho => by
    obtain ⟨q, hq, rfl⟩ := List.mem_map.1 ho
    exact ⟨q, hq, q.link_secondPasses⟩
  unfold State.idleSecond
  split
  · exact
      { sizes := fun h => ⟨h.recalls, h.jobs, h.log, h.tickets, by simpa using h.orders⟩
        roles := links.roles
        reserved := fun h =>
          { fits := by simpa using h.fits
            numbers := h.numbers
            linked := fun o ho n hl => by
              obtain ⟨q, hq, same⟩ := linked o ho
              exact h.linked q hq n (same ▸ hl)
            single := List.pairwise_map.2 (h.single.imp fun k => by simpa only [Order.link_secondPasses] using k) } }
  · exact .refl s

/-- A warm start's repair of a record (R24). -/
theorem ToolRecord.repaired_same (role : LinkId → Role) (r : ToolRecord) : (r.repaired role).tag = r.tag ∧
    (r.repaired role).lifeRem = r.lifeRem ∧ (r.repaired role).lifeInit = r.lifeInit ∧
    ((r.repaired role).state = .empty → r.state = .empty) ∧ ∀ p, (r.repaired role).loc = .crib p → r.loc = .crib p := by
  unfold ToolRecord.repaired
  split
  case h_1 | h_2 => exact ⟨rfl, rfl, rfl, nofun, nofun⟩
  case h_3 => exact ⟨rfl, rfl, rfl, fun h => absurd h (recallGate_presetDue_ne_empty _), nofun⟩
  case h_4 => exact ⟨rfl, rfl, rfl, fun h => absurd h (recallGate_presetDue_ne_empty _), fun _ => id⟩
  case h_5 => exact ⟨rfl, rfl, rfl, fun h => absurd h (recallGate_ne_empty (st := .ready) nofun _), fun _ => id⟩
  case h_6 =>
    split
    · exact ⟨rfl, rfl, rfl, nofun, nofun⟩
    · exact ⟨rfl, rfl, rfl, id, fun _ => id⟩
  all_goals exact ⟨rfl, rfl, rfl, id, fun _ => id⟩

/-- A link that takes a single role has the straps of that role, and no lower-numbered link has them (R200). -/
theorem startRole_of_single {p : Pins} {l : LinkId} (h : (startRole p l).single = true) :
    startRole p l = strappedRole p.roleStraps[l] ∧
      ∀ m, m < l → strappedRole p.roleStraps[m] ≠ strappedRole p.roleStraps[l] := by
  unfold startRole at h ⊢
  dsimp only at h ⊢
  split_ifs at h ⊢ with double
  · cases h
  · refine ⟨rfl, fun m below same => double ?_⟩
    have listed : ∀ m : LinkId, m ∈ [(0 : LinkId), 1, 2, 3] := by decide
    exact Bool.and_eq_true_iff.2 ⟨h, List.any_eq_true.2 ⟨m, listed m, 
      Bool.and_eq_true_iff.2 ⟨decide_eq_true below, beq_iff_eq.2 same⟩⟩⟩

/-- The single roles go to one link each (R200). -/
theorem startRole_single {p : Pins} {l m : LinkId} (single : (startRole p l).single = true)
    (same : startRole p l = startRole p m) : l = m := by
  obtain ⟨el, lowest⟩ := startRole_of_single single
  obtain ⟨em, lowest'⟩ := startRole_of_single (same ▸ single)
  rcases lt_trichotomy l m with h | h | h
  · exact absurd (el.symm.trans (same.trans em)) (lowest' l h)
  · exact h
  · exact absurd (em.symm.trans (same.symm.trans el)) (lowest m h)

theorem role_startLinks (p : Pins) (l : LinkId) : (startLinks p)[l].role = startRole p l := by
  match l with
  | 0 => rfl
  | 1 => rfl
  | 2 => rfl
  | 3 => rfl

/-- The start values of all that is not retained meet the invariants, and the retained memory is as it was (R213). -/
theorem State.keeps_startValues (p : Pins) (s : State) : s.Keeps (s.startValues p) where
  sizes h := ⟨h.recalls, Nat.zero_le _, Nat.zero_le _, Nat.zero_le _, Nat.zero_le _⟩
  tags h := ⟨h.1, fun _ hj => absurd hj List.not_mem_nil⟩
  urgent _ := ⟨.nil, .nil⟩
  roles _ l m single same := by
    have e : ∀ l, ((s.startValues p).link l).role = startRole p l := role_startLinks p
    rw [e] at single
    rw [e, e] at same
    exact startRole_single single same
  hall _ := ⟨fun _ => rfl, Nat.zero_le _⟩
  reserved _ := ⟨Nat.zero_le _, .nil, fun _ ho => absurd ho List.not_mem_nil, .nil⟩

theorem State.tool_coldMemory (s : State) (n : RecNo) : s.coldMemory.tool n = ToolRecord.blank := by
  simp [State.coldMemory, State.tool]

/-- A cold start empties the table and the recall list (R23). -/
theorem State.keeps_coldMemory (s : State) : s.Keeps s.coldMemory where
  sizes h := ⟨Nat.zero_le _, h.jobs, h.log, h.tickets, h.orders⟩
  life _ n := by rw [s.tool_coldMemory]; exact Nat.le_refl _
  tags h := by
    refine ⟨⟨fun n _ => ?_, fun m n tagged => absurd ?_ tagged⟩, h.2⟩
    · rw [s.tool_coldMemory]; rfl
    · rw [s.tool_coldMemory]; rfl
  pockets _ m n p hm := by rw [s.tool_coldMemory] at hm; cases hm
  recalls _ := ⟨.nil, List.not_mem_nil⟩

theorem State.tool_warmMemory (role : LinkId → Role) (s : State) (n : RecNo) :
    (s.warmMemory role).tool n = (s.tool n).change ((s.tool n).repaired role) := by
  simp [State.warmMemory, State.tool]

/-- A warm start repairs each record for itself (R24). -/
theorem State.keeps_warmMemory (role : LinkId → Role) (s : State) : s.Keeps (s.warmMemory role) where
  life h n := by
    obtain ⟨-, rem, init, -⟩ := (s.tool n).repaired_same role
    rw [s.tool_warmMemory, ToolRecord.change_lifeRem, ToolRecord.change_lifeInit, rem, init]
    exact h n
  tags h := by
    have tag : ∀ n, ((s.warmMemory role).tool n).tag = (s.tool n).tag := fun n => by
      rw [s.tool_warmMemory, ToolRecord.change_tag, ((s.tool n).repaired_same role).1]
    refine ⟨⟨fun n empty => ?_, fun m n => by rw [tag, tag]; exact h.1.2 m n⟩, h.2⟩
    rw [s.tool_warmMemory, ToolRecord.change_state] at empty
    obtain ⟨-, -, -, used, -⟩ := (s.tool n).repaired_same role
    rw [tag]
    exact h.1.1 n (used empty)
  pockets h m n p hm hn := by
    rw [s.tool_warmMemory, ToolRecord.change_loc] at hm hn
    obtain ⟨-, -, -, -, loc⟩ := (s.tool m).repaired_same role
    obtain ⟨-, -, -, -, loc'⟩ := (s.tool n).repaired_same role
    exact h m n p (loc p hm) (loc' p hn)

theorem State.keeps_start (p : Pins) (s : State) : s.Keeps (s.start p) := by
  have retained : s.Keeps (if s.lossMark then s.coldMemory else s.warmMemory (startRole p)) := by
    split
    · exact s.keeps_coldMemory
    · exact s.keeps_warmMemory _
  have requalified : ∀ t : State, t.Keeps t.requalify := fun t => {}
  exact retained.trans ((State.keeps_startValues p _).trans ((requalified _).trans ((State.keeps_applyParked _).trans
    ((State.keeps_autoCalCheck _).trans ((State.keeps_engineChoose _).trans (State.keeps_judgeAttention _))))))

theorem State.keeps_mainPowerLoss (s : State) : s.Keeps s.mainPowerLoss := {}

theorem State.keeps_backupSupplyLoss (s : State) : s.Keeps s.backupSupplyLoss := by
  unfold State.backupSupplyLoss
  split
  · exact .refl s
  · exact {}

/-! ### Steps -/

/-- A request command runs its owning rule on its caller's link (R207; log 3). -/
theorem exec_request {i : Instr} {k : Nat} (s : State) (request : i.code = some k) :
    ∃ c, i.caller = some c ∧ exec i s = State.event (State.submit i c (ownRule i)) s := by
  cases i <;> cases request <;> exact ⟨_, rfl, rfl⟩

theorem State.keeps_event {f : State → State} (h : ∀ s, State.Keeps s (f s)) {s t : State}
    (e : State.event f s = .next t) : s.Keeps t := by
  obtain rfl := Host.Outcome.next.inj e
  split
  · exact (h s).trans (State.keeps_judgeAttention _)
  · exact .refl s

/-- An event, a frame, an undefined function, a start or a loss of power keeps every invariant. -/
theorem State.keeps_exec_event {i : Instr} {s t : State} (event : i.code = none) (e : exec i s = .next t) :
    s.Keeps t := by
  cases i
  case undefinedFunction => exact State.keeps_event (State.keeps_undefinedFunction _ _ _) e
  case frameReceived => exact State.keeps_event (State.keeps_frameReceived _ _ _) e
  case receiveGapTimeout => exact State.keeps_event (fun s => s.keeps_receiveGap _) e
  case answerSent => exact State.keeps_event (State.keeps_answerSent _) e
  case linkBreak => exact State.keeps_event (State.keeps_linkBreak _) e
  case encoderStep => exact State.keeps_event (State.keeps_encoderStep _ _) e
  case indexPulse => exact State.keeps_event State.keeps_indexPulse e
  case edgeActive => exact State.keeps_event State.keeps_edgeActive e
  case edgeInactive => exact State.keeps_event State.keeps_edgeInactive e
  case dwellEnd => exact State.keeps_event State.keeps_dwellEnd e
  case deadTimeEnd => exact State.keeps_event State.keeps_deadTimeEnd e
  case guardOpens => exact State.keeps_event State.keeps_guardOpens e
  case guardCloses => exact State.keeps_event State.keeps_guardCloses e
  case stationTimeout => exact State.keeps_event State.keeps_stationExpires e
  case doorOpens => exact State.keeps_event State.keeps_doorOpens e
  case doorCloses => exact State.keeps_event State.keeps_doorCloses e
  case dispenseTimeout => exact State.keeps_event (fun s => s.keeps_dispenseExpires _) e
  case loadTimeout => exact State.keeps_event (fun s => s.keeps_loadExpires _) e
  case editIdleTimeout => exact State.keeps_event (f := editExpires _) (fun s => s.keeps_setEdit _ none) e
  case hallClockAdvance => exact State.keeps_event State.keeps_advanceHall e
  case pendingAgeTick => exact State.keeps_event State.keeps_agePending e
  case start => exact Host.Outcome.next.inj e ▸ s.keeps_start _
  case mainPowerLoss => exact Host.Outcome.next.inj e ▸ s.keeps_mainPowerLoss
  case backupSupplyLoss => exact Host.Outcome.next.inj e ▸ s.keeps_backupSupplyLoss
  case characterReceived => exact State.keeps_event (State.keeps_characterReceived _ _ _) e
  case breakLineReturnsToMark => exact State.keeps_event (fun s => s.keeps_lineToMark _) e
  all_goals cases event

theorem State.keeps_exec {i : Instr} {s t : State} (e : exec i s = .next t) : s.Keeps t := by
  cases request : i.code with
  | none => exact State.keeps_exec_event request e
  | some k =>
    obtain ⟨c, -, run⟩ := exec_request s request
    exact State.keeps_event (State.keeps_submit i c) (run ▸ e)

/-- Every step keeps every invariant. -/
theorem State.keeps_step {s t : State} (e : step s = .next t) : s.Keeps t := by
  unfold step at e
  split at e
  · exact Host.Outcome.next.inj e ▸ s.keeps_idleSecond
  · next rest _ =>
    have taken : s.Keeps { s with pending := rest } := {}
    exact taken.trans (State.keeps_exec e)

/-- Settles O57: each step keeps each collection within its size and the reservations within the table. -/
theorem stepsKeepTheSizes : Obligations.StepsKeepTheSizes := fun _ _ e =>
  ⟨(State.keeps_step e).sizes, (State.keeps_step e).reserved⟩

/-- Settles O59: each step keeps life, tags, pockets, sections, recall list, roles and hall clock proper. -/
theorem stepsKeepThePartProper : Obligations.StepsKeepThePartProper := fun _ _ e =>
  have k := State.keeps_step e
  ⟨k.life, k.tags, k.pockets, k.urgent, k.recalls, k.roles, k.hall⟩

end Sys2Proof.Machine

/-! PROOF. A request on an idle link is answered at once, and a refusal changes nothing but the link and the attention
lines (R12, R202, R207). -/

namespace Sys2Proof.Machine

-- One proof after another: side by side their threads need more memory than the checks allow.
set_option Elab.async false

/-- A link takes a frame at once: it heeds its line, no frame waits and no answer is being sent (R206, R211). -/
structure Link.Idle (k : Link) : Prop where
  heeds   : k.ignoring = false
  waiting : k.waiting = none
  tx      : k.tx = none

theorem State.idle_received {s : State} {l : LinkId} (h : (s.link l).Idle) : ((s.received l).link l).Idle := by
  rw [s.link_received_self]
  exact ⟨h.heeds, h.waiting, h.tx⟩

theorem State.handIn_idle {s : State} {l : LinkId} (h : (s.link l).Idle) (f : Frame) (judge : State → State × Reply) :
    s.handIn l f judge = State.answer l f (judge s) := by
  simp [State.handIn, h.waiting, h.tx]

theorem Instr.functionByte_of_code {i : Instr} {k : Nat} (h : i.code = some k) : i.functionByte = BitVec.ofNat 8 k := by
  cases i <;> cases h <;> rfl

/-- A request command on an idle link is judged by its link's role and its owning rule, and answered (R207). -/
theorem exec_request_idle {i : Instr} {k : Nat} {c : Caller} {s : State} (caller : i.caller = some c)
    (code : i.code = some k) (up : s.mainUp = true) (idle : (s.link c.link).Idle) :
    exec i s = .next (State.judgeAttention (State.answer c.link (frameOf i c)
      ((s.received c.link).byRole c.link k (ownRule i)))) := by
  obtain ⟨d, called, run⟩ := exec_request s code
  obtain rfl : d = c := Option.some.inj (called.symm.trans caller)
  rw [run, State.event_up _ _ up, State.submit, if_neg (by simp [idle.heeds]),
    State.handIn_idle (State.idle_received idle), code]
  rfl

/-- A frame of an undefined function on an idle link is judged and answered (R207). -/
theorem exec_undefinedFunction_idle {c : Caller} {s : State} (function : Byte) (params : List Byte)
    (up : s.mainUp = true) (idle : (s.link c.link).Idle) :
    exec (.undefinedFunction c function params) s = .next (State.judgeAttention (State.answer c.link
      { function := function, tagByte := c.tagByte, params := params }
      (judgeFrame c.link { function := function, tagByte := c.tagByte, params := params } (s.received c.link)))) := by
  show State.event (State.undefinedFunction c function params) s = _
  rw [State.event_up _ _ up, State.undefinedFunction, if_neg (by simp [idle.heeds]),
    State.handIn_idle (State.idle_received idle)]

/-- A frame that a caller's request command is, when it has no function code of the table, is an undefined function. -/
theorem Instr.eq_undefinedFunction {i : Instr} {c : Caller} (caller : i.caller = some c) (code : i.code = none) :
    ∃ function params, i = .undefinedFunction c function params := by
  cases i <;> cases code <;> cases caller
  exact ⟨_, _, rfl⟩

/-- Whatever a caller sends on an idle link, some rule answers it, and keeps to R12 when it refuses. -/
theorem exec_answers {i : Instr} {c : Caller} {s : State} (caller : i.caller = some c) (up : s.mainUp = true)
    (idle : (s.link c.link).Idle) : ∃ f q, (s.received c.link).Answers q ∧
      exec i s = .next (State.judgeAttention (State.answer c.link f q)) := by
  cases code : i.code with
  | some k =>
    exact ⟨_, _, State.answers_byRole (State.answers_ownRule i) _ _ _, exec_request_idle caller code up idle⟩
  | none =>
    obtain ⟨function, params, rfl⟩ := Instr.eq_undefinedFunction caller code
    exact ⟨_, _, State.answers_judgeFrame _ _ _, exec_undefinedFunction_idle function params up idle⟩

/-- The answer that a link's transmitter holds is the one it was given. -/
theorem State.tx_answer (l : LinkId) (f : Frame) (q : State × Reply) :
    ((State.answer l f q).judgeAttention.link l).tx =
      some { function := f.function + 0x80#8, tagByte := f.tagByte, code := q.2.code, results := q.2.results } := by
  rw [State.link_judgeAttention, State.judgedLink, State.answer, State.link_changeLink_self]

/-- Settles O51: a refusing rule hands the received state back, and the answer touches the transmitter alone. -/
theorem refusedRequestsChangeNothing : Obligations.RefusedRequestsChangeNothing := by
  intro i c s caller up heeds waiting tx said
  have idle : (s.link c.link).Idle := ⟨heeds, waiting, tx⟩
  refine ⟨fun u a run sent refused => ?_, fun k code closed => ?_, fun function params undefined formed => ?_⟩
  · obtain ⟨f, q, answers, ran⟩ := exec_answers caller up idle
    obtain rfl := Host.Outcome.next.inj (run.symm.trans ran)
    obtain rfl := Option.some.inj ((State.tx_answer c.link f q).symm.trans sent)
    obtain ⟨t, r⟩ := q
    obtain rfl : t = s.received c.link := answers.refusal refused
    rfl
  · have shut : roleAllows k ((s.received c.link).link c.link).role = false := by
      simpa [roleAllows] using closed
    rw [exec_request_idle caller code up idle, State.byRole, if_neg (Bool.eq_false_iff.1 shut),
      State.answer_eq_answered c i k _ (Instr.functionByte_of_code code)]
    rfl
  · subst undefined
    have outside : isFunctionCode function.toNat = false := by
      simp only [Instr.wellFormed, Bool.and_eq_true, Bool.not_eq_true'] at formed
      exact formed.1
    rw [exec_undefinedFunction_idle function params up idle, judgeFrame, State.role_received, outside]
    split <;> rfl

end Sys2Proof.Machine

/-! PROOF. The step, and the supervisor's lifecycle requests (R13 to R17): each as its owning rule on the received
state, answered. -/

namespace Sys2Proof.Machine

-- One proof after another: side by side their threads need more memory than the checks allow.
set_option Elab.async false

/-- Settles O1, by the equation of `step` on a queue that is not empty. -/
theorem stepRunsTheFrontCommand : Obligations.StepRunsTheFrontCommand := by
  intro c rest s h
  rw [step, h]

/-- A request taken at once: what its owning rule makes of the received state, answered (R206, R207). -/
theorem exec_taken {i : Instr} {k : Nat} {c : Caller} {s u : State} {code : ReplyCode} {results : List Byte}
    (h : s.Takes c k) (caller : i.caller = some c) (request : i.code = some k)
    (rule : ownRule i (s.received c.link) = (u, { code := code, results := results })) :
    exec i s = .next (u.answered c k code results) := by
  obtain ⟨d, called, run⟩ := exec_request s request
  obtain rfl : d = c := Option.some.inj (called.symm.trans caller)
  rw [run]
  exact State.event_submit_taken h request (Instr.functionByte_of_code request) rule

/-! ### Changes that raise the version (R11) -/

/-- A change that moves RECALLED raises the version by one. -/
theorem ToolRecord.change_of_recalled (old new : ToolRecord) (h : new.recalled ≠ old.recalled) :
    old.change new = { new with version := old.version + 1 } := by
  rw [ToolRecord.change, if_neg]
  intro e
  rw [← e] at h
  exact h rfl

theorem State.changeTool_of_state {s : State} {n : RecNo} {f : ToolRecord → ToolRecord}
    (h : (f (s.tool n)).state ≠ (s.tool n).state) :
    s.changeTool n f = s.setTool n { f (s.tool n) with version := (s.tool n).version + 1 } := by
  rw [s.changeTool_eq, ToolRecord.change_of_state _ _ h]

theorem State.changeTool_of_recalled {s : State} {n : RecNo} {f : ToolRecord → ToolRecord}
    (h : (f (s.tool n)).recalled ≠ (s.tool n).recalled) :
    s.changeTool n f = s.setTool n { f (s.tool n) with version := (s.tool n).version + 1 } := by
  rw [s.changeTool_eq, ToolRecord.change_of_recalled _ _ h]

/-- RECALLED keeps a record that would be PRESET_DUE in QUARANTINE (R21). -/
theorem recallGate_presetDue (b : Bool) : recallGate b .presetDue = if b then .quarantine else .presetDue := by
  cases b <;> rfl

/-! ### Values in range (R4) -/

theorem clamp_eq_self_iff {lo hi v : Nat} : clamp lo hi v = v ↔ (lo ≤ v ∧ v ≤ hi) ∨ (hi < lo ∧ v = lo) := by
  unfold clamp
  omega

theorem clampLength_eq_self_iff {hi : Nat} {v : Int} : (clampLength hi v : Int) = v ↔ 0 ≤ v ∧ v ≤ hi := by
  unfold clampLength
  omega

theorem code_rangeFeatures_eq_self_iff {v : Nat} : (rangeFeatures v).code = v ↔ 1 ≤ v ∧ v ≤ 3 := by
  unfold rangeFeatures
  split_ifs <;> simp only [Features.code] <;> omega

theorem rangeSamples_eq_self_iff {v : Nat} : rangeSamples v = v ↔ v = 1 ∨ v = 2 ∨ v = 4 ∨ v = 8 := by
  unfold rangeSamples
  split_ifs <;> omega

/-- A plan is clamped unless each of its values lies in its range (R4). -/
theorem planClamped_eq_false_iff {f n k : Nat} : planClamped f n k = false ↔
    (1 ≤ f ∧ f ≤ 3) ∧ (1 ≤ n ∧ n ≤ 8) ∧ (k = 1 ∨ k = 2 ∨ k = 4 ∨ k = 8) := by
  have same : planClamped f n k = false ↔
      (rangeFeatures f).code = f ∧ clamp 1 8 n = n ∧ rangeSamples k = k := by
    show (decide ((rangeFeatures f).code ≠ f) || decide (clamp 1 8 n ≠ n) || decide (rangeSamples k ≠ k)) = false ↔ _
    simp [and_assoc]
  rw [same, code_rangeFeatures_eq_self_iff, clamp_eq_self_iff, rangeSamples_eq_self_iff]
  omega

theorem registerClamped_eq_false_iff {cls : BitVec 16} {nl nr : BitVec 32} {f st sa m : Byte} :
    registerClamped cls nl nr f st sa m = false ↔
      (1 ≤ cls.toNat ∧ cls.toNat ≤ 4095) ∧ (0 ≤ nl.toInt ∧ nl.toInt ≤ 9999999) ∧ (0 ≤ nr.toInt ∧ nr.toInt ≤ 1999999) ∧
        (1 ≤ f.toNat ∧ f.toNat ≤ 3) ∧ (1 ≤ st.toNat ∧ st.toNat ≤ 8) ∧
        (sa.toNat = 1 ∨ sa.toNat = 2 ∨ sa.toNat = 4 ∨ sa.toNat = 8) ∧ m.toNat ≤ 1 := by
  simp only [registerClamped, Bool.or_eq_false_iff, bne_eq_false_iff_eq, decide_eq_false_iff_not,
    clampLength_eq_self_iff, planClamped_eq_false_iff, clamp_eq_self_iff, maxLength, maxRadius]
  omega

/-! ### REGISTER (R13) -/

/-- Settles O7: the EMPTY record becomes the registered one, and its state moves, so its version rises. -/
theorem registerMakesAToolRecord : Obligations.RegisterMakesAToolRecord := by
  intro s c n num tag cls nl nr lt rt ru we f st sa m li taken number nonzero empty free
  refine exec_taken taken rfl rfl ?_
  have unheld : ((s.received c.link).holder? tag).isSome = false := by
    rw [State.holder?_received, (s.holder?_none tag).2 free]
    rfl
  have moved : (s.received c.link).changeTool n (fun _ => registered tag cls nl nr lt rt ru we f st sa m li
      ((s.received c.link).recalls.contains tag)) = (s.received c.link).setTool n
        { registered tag cls nl nr lt rt ru we f st sa m li (decide (tag ∈ s.recalls)) with
          version := (s.tool n).version + 1 } := by
    rw [State.changeTool_of_state, List.contains_eq_mem]
    · rfl
    · rw [State.tool_received, empty]
      exact recallGate_presetDue_ne_empty _
  show opRegister num tag cls nl nr lt rt ru we f st sa m li (s.received c.link) = _
  rw [opRegister, recNo?_eq number]
  dsimp only
  rw [if_neg nonzero, if_neg (by rw [State.tool_received, empty]; exact not_not.2 rfl),
    if_neg (Bool.eq_false_iff.1 unheld), moved, State.tool_setTool_self]
  have answer : ∀ bytes, okOrClamped (registerClamped cls nl nr f st sa m) bytes =
      { code := if (1 ≤ cls.toNat ∧ cls.toNat ≤ 4095) ∧ (0 ≤ nl.toInt ∧ nl.toInt ≤ 9999999) ∧
          (0 ≤ nr.toInt ∧ nr.toInt ≤ 1999999) ∧ (1 ≤ f.toNat ∧ f.toNat ≤ 3) ∧ (1 ≤ st.toNat ∧ st.toNat ≤ 8) ∧
          (sa.toNat = 1 ∨ sa.toNat = 2 ∨ sa.toNat = 4 ∨ sa.toNat = 8) ∧ m.toNat ≤ 1
        then .ok else .okClamped, results := bytes } := by
    refine fun bytes => congrArg (Reply.mk · bytes) ?_
    cases clamped : registerClamped cls nl nr f st sa m with
    | false => exact (if_pos (registerClamped_eq_false_iff.1 clamped)).symm
    | true =>
      refine (if_neg fun inRange => ?_).symm
      exact Bool.false_ne_true ((registerClamped_eq_false_iff.2 inRange).symm.trans clamped)
  rw [answer]
  by_cases listed : tag ∈ s.recalls
  · simp only [listed, if_true, decide_true]
    rfl
  · simp only [listed, if_false, decide_false]
    rfl

/-! ### RETIRE (R14) -/

/-- A withdrawal of a job changes no record that is not READY at CRIB (R69, R155). -/
theorem State.tool_withdrawJob {b s : State} {j : Job} {n : RecNo}
    (h : ¬ ((s.tool n).state = .ready ∧ (s.tool n).loc.isCrib = true)) : (b.withdrawJob s j).tool n = s.tool n :=
  (State.ends_withdrawJob b s j).tool_eq h

/-- A WAITING job, or one FETCHING with its order RELEASED, may be withdrawn (R14, R20, R68). -/
theorem State.withdrawable_of {s : State} {j : Job}
    (h : j.phase = .waiting ∨ ∃ o q, j.phase = .fetching o ∧ s.order? o = some q ∧ q.phase = .released) :
    s.withdrawable j = true := by
  rcases h with waiting | ⟨o, q, fetching, found, released⟩
  · simp [State.withdrawable, waiting]
  · simp [State.withdrawable, fetching, found, released]

theorem RecState.retirable_of {st : RecState}
    (h : st = .presetDue ∨ st = .ready ∨ st = .quarantine ∨ st = .worn ∨ st = .check) :
    st.retirable = true ∧ st ≠ .empty := by
  rcases h with rfl | rfl | rfl | rfl | rfl <;> exact ⟨rfl, nofun⟩

/-- Settles O8: the record is blank with its version one higher, and the withdrawal leaves an EMPTY record alone. -/
theorem retireEmptiesTheRecord : Obligations.RetireEmptiesTheRecord := by
  intro s c n num taken number state t blank results
  obtain ⟨retirable, used⟩ := RecState.retirable_of state
  have allowed : (!(t.tool n).state.retirable) = false := congrArg (! ·) retirable
  have emptied : t.changeTool n (fun _ => ToolRecord.blank) = t.setTool n blank :=
    State.changeTool_of_state used.symm
  have withdrawn (j : Job) : (t.withdrawJob (t.setTool n blank) j).tool n = blank := by
    rw [State.tool_withdrawJob, State.tool_setTool_self]
    rw [State.tool_setTool_self]
    exact fun ready => nomatch ready.1
  refine ⟨fun unnamed => exec_taken taken rfl rfl ?_, fun j named free => exec_taken taken rfl rfl ?_⟩
  · have unnamed : t.jobOf? n = none := unnamed
    show opRetire num t = _
    rw [opRetire, recNo?_eq number]
    dsimp only
    rw [unnamed, allowed, emptied]
    simp only [Option.any_none, Bool.false_eq_true, if_false, State.tool_setTool_self]
    rfl
  · have named : t.jobOf? n = some j := named
    have free : t.withdrawable j = true := State.withdrawable_of (s := t) free
    show opRetire num t = _
    rw [opRetire, recNo?_eq number]
    dsimp only
    rw [named, allowed, emptied]
    simp only [Option.any_some, free, Bool.not_true, Bool.false_eq_true, if_false, withdrawn]
    rfl

/-! ### RELEASE and RESET_LIFE (R15, R16) -/

/-- Settles O9: each request moves the record's state, so its version rises. -/
theorem releaseAndResetLifeReturnTools : Obligations.ReleaseAndResetLifeReturnTools := by
  intro s c n num number t r
  refine ⟨fun taken held unrecalled unnamed => exec_taken taken rfl rfl ?_,
    fun taken worn => exec_taken taken rfl rfl ?_⟩
  · have held : (t.tool n).state = .quarantine := held
    have unrecalled : (t.tool n).recalled = false := unrecalled
    have unnamed : t.jobOf? n = none := unnamed
    have moved : t.changeTool n (fun r => { r with state := .presetDue, damaged := false }) =
        t.setTool n { r with state := .presetDue, damaged := false, version := r.version + 1 } :=
      State.changeTool_of_state (by rw [held]; exact nofun)
    show opRelease num t = _
    rw [opRelease, recNo?_eq number]
    dsimp only
    rw [if_neg (not_not.2 held), if_neg (Bool.eq_false_iff.1 unrecalled), unnamed, moved, State.tool_setTool_self]
    rfl
  · have worn : (t.tool n).state = .worn := worn
    have moved : t.changeTool n (fun r => { r with
          state := recallGate r.recalled .presetDue, lifeRem := r.lifeInit, presetLen := none, presetRad := none,
          presetJob := none, presetTime := none }) =
        t.setTool n { r with
          state := if r.recalled then .quarantine else .presetDue, lifeRem := r.lifeInit, presetLen := none
          presetRad := none, presetJob := none, presetTime := none, version := r.version + 1 } := by
      rw [State.changeTool_of_state, recallGate_presetDue]
      · rfl
      · rw [recallGate_presetDue, worn]
        split <;> exact nofun
    show opResetLife num t = _
    rw [opResetLife, recNo?_eq number]
    dsimp only
    rw [if_neg (not_not.2 worn), moved, State.tool_setTool_self]
    cases r.recalled <;> rfl

/-! ### RECONCILE (R17) -/

/-- A RECONCILE whose target is accepted moves a CHECK record to the target's place and, past the gate of RECALLED, its
state. -/
theorem opReconcile_of_target {s : State} {n : RecNo} {num : BitVec 16} {target pocket link machine mp : Byte}
    {st gated : RecState} {loc : Location} (number : num.toNat = n.val) (check : (s.tool n).state = .check)
    (gate : recallGate (s.tool n).recalled st = gated) (elsewhere : gated ≠ .check)
    (accepted : reconcileTarget s n target.toNat pocket.toNat link.toNat machine.toNat mp.toNat = .ok (st, loc)) :
    opReconcile num target pocket link machine mp s =
      (s.setTool n { s.tool n with state := gated, loc := loc, version := (s.tool n).version + 1 },
        okWith (b1 gated.code ++ b2 ((s.tool n).version + 1).toNat)) := by
  subst gate
  rw [opReconcile, recNo?_eq number]
  dsimp only
  rw [if_neg (not_not.2 check), accepted]
  dsimp only
  rw [State.changeTool_of_state (by rw [check]; exact elsewhere), State.tool_setTool_self]
  rfl

theorem pocket?_eq {v : Nat} {p : Fin 240} (h : v = p.val) : pocket? v = some p := by
  subst h
  simp [pocket?]

theorem reconcileTarget_crib {s : State} {n : RecNo} {pocket link machine mp : Nat} {p : Fin 240}
    (pocketed : pocket = p.val) (free : s.pocketHeld n p = false) :
    reconcileTarget s n 0 pocket link machine mp = .ok (.presetDue, .crib p) := by
  rw [reconcileTarget, if_pos rfl, pocket?_eq pocketed]
  dsimp only
  rw [if_neg (Bool.eq_false_iff.1 free)]

theorem reconcileTarget_machine {s : State} {n : RecNo} {pocket machine mp : Nat} {l : LinkId}
    (cell : (s.link l).role = .cell) (machineInRange : machine ≤ 63) (used : 1 ≤ mp) (inRange : mp ≤ 250) :
    reconcileTarget s n 3 pocket l.val machine mp =
      .ok (.inMachine, .machine { link := l, machine := machine, pocket := mp }) := by
  rw [reconcileTarget, if_neg (by decide), if_neg (by decide), if_neg (by decide), if_pos rfl, dif_pos l.isLt,
    if_neg (by omega), if_neg (not_not.2 cell)]

/-- Settles O10: each of the four targets names a state and a place, and the record leaves CHECK. -/
theorem reconcilePlacesTheTool : Obligations.ReconcilePlacesTheTool := by
  intro s c n num pocket link machine mp taken number check t r due done
  have place {target : Byte} {st : RecState} (gated : RecState) {loc : Location}
      (gate : recallGate r.recalled st = gated) (elsewhere : gated ≠ .check)
      (accepted : reconcileTarget t n target.toNat pocket.toNat link.toNat machine.toNat mp.toNat = .ok (st, loc)) :
      exec (.reconcile c num target pocket link machine mp) s = .next (done gated loc) :=
    exec_taken taken rfl rfl (opReconcile_of_target number check gate elsewhere accepted)
  have gated : recallGate r.recalled .presetDue = due := recallGate_presetDue _
  have gone : due ≠ .check := by
    show (if r.recalled then RecState.quarantine else .presetDue) ≠ .check
    split <;> exact nofun
  have ungated (st : RecState) (out : st ≠ .presetDue ∧ st ≠ .ready) : recallGate r.recalled st = st := by
    simp [recallGate, out.1, out.2]
  refine ⟨fun p pocketed alone => ?_, place due gated gone rfl,
    place .returning (ungated _ ⟨nofun, nofun⟩) nofun rfl,
    fun l linked cell machineInRange pocketUsed pocketInRange => place .inMachine (ungated _ ⟨nofun, nofun⟩) nofun ?_⟩
  · have free : t.pocketHeld n p = false := (t.pocketHeld_eq_false n p).2 alone
    exact place due gated gone (reconcileTarget_crib pocketed free)
  · have cell : (t.link l).role = .cell := (State.role_received _ _ _).trans cell
    rw [linked]
    exact reconcileTarget_machine cell machineInRange pocketUsed pocketInRange

end Sys2Proof.Machine

/-! PROOF. ADD_RECALL and REMOVE_RECALL (R19, R20, R22): what the list's requests do to the record that carries the tag
and to the work before it. -/

namespace Sys2Proof.Machine

-- One proof after another: side by side their threads need more memory than the checks allow.
set_option Elab.async false

/-! ### A recall's two changes of a record (R20) -/

theorem State.markRecalled_eq {s : State} {n : RecNo} (h : (s.tool n).recalled = false) :
    s.markRecalled n = s.setTool n { s.tool n with recalled := true, version := (s.tool n).version + 1 } :=
  State.changeTool_of_recalled (by rw [h]; exact nofun)

theorem State.quarantineRecalled_eq {s : State} {n : RecNo} (h : (s.tool n).state ≠ .quarantine) :
    s.quarantineRecalled n = s.setTool n
      { s.tool n with recalled := true, state := .quarantine, version := (s.tool n).version + 1 } :=
  State.changeTool_of_state h.symm

/-- A record that waits for a measurement or for an issue is recalled by its job (R20). -/
theorem State.recallRecord_due {s : State} {n : RecNo} (h : (s.tool n).state = .presetDue ∨ (s.tool n).state = .ready) :
    s.recallRecord n = s.recallDue n := by
  rcases h with h | h <;> rw [State.recallRecord, h]

theorem State.recallRecord_allocated {s : State} {n : RecNo} (h : (s.tool n).state = .allocated) :
    s.recallRecord n = s.recallAllocated n := by
  rw [State.recallRecord, h]

/-- In every other state a recall leaves the record where it stands (R20). -/
theorem State.recallRecord_marked {s : State} {n : RecNo}
    (h : (s.tool n).state = .measuring ∨ (s.tool n).state = .inTransit ∨ (s.tool n).state = .inMachine ∨
      (s.tool n).state = .returning ∨ (s.tool n).state = .quarantine ∨ (s.tool n).state = .worn ∨
      (s.tool n).state = .check) : s.recallRecord n = s.markRecalled n := by
  rcases h with h | h | h | h | h | h | h <;> rw [State.recallRecord, h]

/-! ### The list's requests (R19, R22) -/

theorem opAddRecall_listed {s : State} {tag : Tag} (used : tag ≠ 0) (listed : tag ∈ s.recalls) :
    opAddRecall tag s = (s, okWith (recordAndState s (s.holder? tag))) := by
  rw [opAddRecall, if_neg used, if_pos (List.contains_iff_mem.2 listed)]

/-- A tag put on the list that no record carries (R19). -/
theorem opAddRecall_absent {s : State} {tag : Tag} (used : tag ≠ 0) (unlisted : tag ∉ s.recalls)
    (room : s.recalls.length < 64) (absent : s.holder? tag = none) :
    opAddRecall tag s = ({ s with recalls := s.recalls ++ [tag] }, okWith (b1 0 ++ b2 0 ++ b1 0)) := by
  rw [opAddRecall, if_neg used, if_neg (mt List.contains_iff_mem.1 unlisted), if_neg (by omega), absent]
  rfl

/-- A tag put on the list recalls the record that carries it (R19, R20). -/
theorem opAddRecall_carried {s : State} {tag : Tag} {n : RecNo} (used : tag ≠ 0) (unlisted : tag ∉ s.recalls)
    (room : s.recalls.length < 64) (carried : s.holder? tag = some n) :
    opAddRecall tag s = (State.recallRecord { s with recalls := s.recalls ++ [tag] } n,
      okWith (recordAndState (State.recallRecord { s with recalls := s.recalls ++ [tag] } n) (some n))) := by
  rw [opAddRecall, if_neg used, if_neg (mt List.contains_iff_mem.1 unlisted), if_neg (by omega), carried]

theorem opRemoveRecall_unlisted {s : State} {tag : Tag} (used : tag ≠ 0) (unlisted : tag ∉ s.recalls) :
    opRemoveRecall tag s = (s, okWith (recordAndState s (s.holder? tag))) := by
  rw [opRemoveRecall, if_neg used, if_pos]
  simpa using unlisted

/-- A tag taken off the list that no record carries (R22). -/
theorem opRemoveRecall_absent {s : State} {tag : Tag} (used : tag ≠ 0) (listed : tag ∈ s.recalls)
    (absent : s.holder? tag = none) :
    opRemoveRecall tag s =
      ({ s with recalls := s.recalls.filter (fun g => g != tag) }, okWith (b1 0 ++ b2 0 ++ b1 0)) := by
  rw [opRemoveRecall, if_neg used, if_neg (by simpa using listed), absent]
  rfl

/-- A tag taken off the list clears RECALLED on the record that carries it (R22). -/
theorem opRemoveRecall_carried {s : State} {tag : Tag} {n : RecNo} (used : tag ≠ 0) (listed : tag ∈ s.recalls)
    (carried : s.holder? tag = some n) (marked : (s.tool n).recalled = true) :
    opRemoveRecall tag s =
      (State.setTool { s with recalls := s.recalls.filter (fun g => g != tag) } n
        { s.tool n with recalled := false, version := (s.tool n).version + 1 },
        okWith (b1 1 ++ b2 n.val ++ b1 (s.tool n).state.code)) := by
  have cleared : State.changeTool { s with recalls := s.recalls.filter (fun g => g != tag) } n
      (fun r => { r with recalled := false }) =
        State.setTool { s with recalls := s.recalls.filter (fun g => g != tag) } n
          { s.tool n with recalled := false, version := (s.tool n).version + 1 } :=
    State.changeTool_of_recalled fun same => nomatch same.trans marked
  rw [opRemoveRecall, if_neg used, if_neg (by simpa using listed), carried]
  dsimp only
  rw [cleared, recordAndState, State.tool_setTool_self]

/-- ADD_RECALL of a tag that a record carries: the record's recall, answered with the record's state after it. -/
theorem exec_addRecall_carried {s v : State} {c : Caller} {tag : Tag} {n : RecNo} {st : RecState}
    (taken : s.Takes c 0x06) (used : tag ≠ 0) (unlisted : tag ∉ s.recalls) (room : s.recalls.length < 64)
    (carried : s.holder? tag = some n)
    (effect : State.recallRecord { s.received c.link with recalls := s.recalls ++ [tag] } n = v)
    (state : (v.tool n).state = st) :
    exec (.addRecall c tag) s = .next (v.answered c 0x06 .ok (b1 1 ++ b2 n.val ++ b1 st.code)) := by
  refine exec_taken taken rfl rfl ?_
  show opAddRecall tag (s.received c.link) = _
  have carried : (s.received c.link).holder? tag = some n := carried
  rw [opAddRecall_carried (s := s.received c.link) used unlisted room carried, ← state, ← effect]
  rfl

/-- Settles O11: a listed tag changes nothing, an unlisted one is put on the list, and the record that carries it is
marked, or put in QUARANTINE when it waits without a job. -/
theorem recallsMarkTheRecord : Obligations.RecallsMarkTheRecord := by
  intro s c tag used t u v
  have unmade (carrier : s.holder? tag = none) : t.holder? tag = none := carrier
  have made {n : RecNo} (carrier : s.holder? tag = some n) : t.holder? tag = some n := carrier
  refine ⟨fun taken listed absent => exec_taken taken rfl rfl ?_,
    fun n taken listed carried => exec_taken taken rfl rfl ?_,
    fun taken unlisted room absent => exec_taken taken rfl rfl ?_,
    fun n taken unlisted room carried unmarked state => ?_,
    fun n taken unlisted room carried unnamed state => ?_,
    fun taken listed absent => exec_taken taken rfl rfl ?_,
    fun n taken listed carried marked => exec_taken taken rfl rfl ?_,
    fun n taken unlisted carried => exec_taken taken rfl rfl ?_⟩
  · exact (opAddRecall_listed (s := t) used listed).trans (by rw [unmade absent]; rfl)
  · exact (opAddRecall_listed (s := t) used listed).trans (by rw [made carried]; rfl)
  · exact opAddRecall_absent (s := t) used unlisted room absent
  · refine exec_addRecall_carried taken used unlisted room carried
      ((State.recallRecord_marked (s := u) state).trans (State.markRecalled_eq (s := u) unmarked)) ?_
    rw [State.tool_setTool_self]
  · have unnamed : u.jobOf? n = none := unnamed
    have moves : (u.tool n).state ≠ .quarantine := by
      rcases state with state | state <;> exact fun e => nomatch state.symm.trans e
    refine exec_addRecall_carried (st := .quarantine) taken used unlisted room carried ?_
      (by rw [State.tool_setTool_self])
    refine (State.recallRecord_due (s := u) state).trans ?_
    rw [State.recallDue, unnamed]
    exact State.quarantineRecalled_eq moves
  · exact opRemoveRecall_absent (s := t) used listed absent
  · exact opRemoveRecall_carried (s := t) used listed carried marked
  · exact (opRemoveRecall_unlisted (s := t) used unlisted).trans (by rw [made carried]; rfl)

/-! ### A recalled record's job (R20, R69, R155) -/

/-- The job that names a record names it. -/
theorem State.record_of_jobOf? {s : State} {n : RecNo} {j : Job} (h : s.jobOf? n = some j) : j.record = some n := by
  simpa using List.find?_some h

theorem State.tool_withdrawFetch (s : State) (j : Job) (n : RecNo) : (s.withdrawFetch j).tool n = s.tool n := by
  unfold State.withdrawFetch
  split <;> rfl

/-- The withdrawal of a job from a QUARANTINE record prompts a pass when an order goes, or an urgent claim (R69). -/
theorem State.withdrawJob_of_quarantine {b s : State} {j : Job} {n : RecNo} (record : j.record = some n)
    (held : (s.tool n).state = .quarantine) :
    b.withdrawJob s j =
      ((s.withdrawFetch j).dropJob j).settle (j.phase.isFetching || (j.urgent && b.holdsClaim j)) := by
  have stays : (((s.withdrawFetch j).dropJob j).tool n).state = .quarantine := by
    rw [(State.ends_dropJob _ j).tool_eq, State.tool_withdrawFetch, held]
    rw [State.tool_withdrawFetch, held]
    exact fun ready => nomatch ready.1
  have prompts : removalPrompts b j ((s.withdrawFetch j).dropJob j) = (j.urgent && b.holdsClaim j) := by
    rw [removalPrompts, record]
    dsimp only
    rw [stays]
    simp
  rw [State.withdrawJob, prompts]

theorem State.dropJob_of_current {s : State} {j : Job} (h : j.phase = .current) :
    s.dropJob j = (s.withoutJob j.number).engineToIdle.autoCalCheck := by
  rw [State.dropJob, if_pos h]

theorem State.dropJob_of_not_current {s : State} {j : Job} (h : j.phase ≠ .current) :
    s.dropJob j = (s.withoutJob j.number).autoCalCheck := by
  rw [State.dropJob, if_neg h]

/-- A WAITING job leaves the queue, and its urgent claim prompts a pass. -/
theorem State.withdrawJob_of_waiting {b s : State} {j : Job} {n : RecNo} (record : j.record = some n)
    (held : (s.tool n).state = .quarantine) (waiting : j.phase = .waiting) :
    b.withdrawJob s j = (s.withoutJob j.number).autoCalCheck.settle (j.urgent && (b.tool n).loc.isCrib) := by
  rw [State.withdrawJob_of_quarantine record held, State.dropJob_of_not_current (by rw [waiting]; exact nofun)]
  simp [State.withdrawFetch, State.holdsClaim, State.jobAtCrib, JobPhase.isFetching, waiting, record]

/-- A FETCHING job leaves the queue and its order the list, and the order prompts a pass. -/
theorem State.withdrawJob_of_fetching {b s : State} {j : Job} {n : RecNo} {o : Nat} (record : j.record = some n)
    (held : (s.tool n).state = .quarantine) (fetching : j.phase = .fetching o) :
    b.withdrawJob s j = ((s.withoutOrder o).withoutJob j.number).autoCalCheck.settle true := by
  rw [State.withdrawJob_of_quarantine record held, State.dropJob_of_not_current (by rw [fetching]; exact nofun)]
  simp [State.withdrawFetch, JobPhase.isFetching, fetching]

/-- The current job leaves the queue and the engine is IDLE; no pass is prompted. -/
theorem State.withdrawJob_of_current {b s : State} {j : Job} {n : RecNo} (record : j.record = some n)
    (held : (s.tool n).state = .quarantine) (current : j.phase = .current) :
    b.withdrawJob s j = (s.withoutJob j.number).engineToIdle.autoCalCheck.settle false := by
  have claimless : b.holdsClaim j = false := by
    rw [State.holdsClaim, current]
    rfl
  rw [State.withdrawJob_of_quarantine record held, State.dropJob_of_current current, claimless]
  simp [State.withdrawFetch, JobPhase.isFetching, current]

theorem State.not_withdrawable_of_fetched {s : State} {j : Job} {o : Nat} {q : Order} {sec : Nat}
    (fetching : j.phase = .fetching o) (found : s.order? o = some q) (fetched : q.phase = .fetched sec) :
    s.withdrawable j = false := by
  simp [State.withdrawable, fetching, found, fetched]

/-- A recalled record with a job that may be withdrawn, or that is OFFERED, loses the job (R20). -/
theorem State.recallDue_of_withdrawn {s : State} {n : RecNo} {j : Job} (named : s.jobOf? n = some j)
    (h : s.withdrawable j = true ∨ (j.phase = .current ∧ s.engine.phase = .offered)) :
    s.recallDue n = s.withdrawJob (s.quarantineRecalled n) j := by
  rw [State.recallDue, named]
  dsimp only
  by_cases free : s.withdrawable j = true
  · rw [if_pos free]
  · rw [if_neg free, if_pos (h.resolve_left free)]

/-- A recalled record whose job is under way keeps it (R20). -/
theorem State.recallDue_of_kept {s : State} {n : RecNo} {j : Job} (named : s.jobOf? n = some j)
    (bound : s.withdrawable j = false) (unoffered : j.phase ≠ .current) : s.recallDue n = s.markRecalled n := by
  rw [State.recallDue, named]
  dsimp only
  rw [if_neg (Bool.eq_false_iff.1 bound), if_neg fun offered => unoffered offered.1]

/-- A recalled ALLOCATED record whose order is RELEASED: the order goes, and the ticket waits at the head (R20). -/
theorem State.recallAllocated_of_released {s : State} {n : RecNo} {o : Order} {k : Nat} (named : s.orderOf? n = some o)
    (link : o.link = .cell k) (released : o.phase = .released) :
    s.recallAllocated n = State.settle (((s.quarantineRecalled n).withoutOrder o.number).ticketToHead k
      (fun u => { u with phase := .waiting })) true := by
  rw [State.recallAllocated, named]
  dsimp only
  rw [link, released]

theorem State.recallAllocated_of_fetched {s : State} {n : RecNo} {o : Order} {sec : Nat} (named : s.orderOf? n = some o)
    (fetched : o.phase = .fetched sec) : s.recallAllocated n = s.markRecalled n := by
  rw [State.recallAllocated, named]
  dsimp only
  rw [fetched]

theorem State.ticketToHead_eq {s : State} {k : Nat} {w : Ticket} (f : Ticket → Ticket) (h : s.ticket? k = some w) :
    s.ticketToHead k f =
      { s with tickets := placeHead (·.urgent) (f w) (s.tickets.filter (fun v => v.number != k)) } := by
  rw [State.ticketToHead, h]

/-- Settles O12: the record's recall runs on the state with the longer list; each row of R20 is one of the ways it
takes. -/
theorem addRecallWithdrawsTheWork : Obligations.AddRecallWithdrawsTheWork := by
  intro s c tag n taken used unlisted room carried r u held marked done
  have recalled {v : State} {st : RecState} (effect : u.recallRecord n = v) (state : (v.tool n).state = st) :
      exec (.addRecall c tag) s = .next (done v st) :=
    exec_addRecall_carried taken used unlisted room carried effect state
  have inQuarantine : (held.tool n).state = .quarantine := by rw [State.tool_setTool_self]
  have notReady : ¬ ((held.tool n).state = .ready ∧ (held.tool n).loc.isCrib = true) :=
    fun ready => nomatch ready.1.symm.trans inQuarantine
  have mark (unmarked : r.recalled = false) : u.markRecalled n = marked := State.markRecalled_eq unmarked
  have markedState : (marked.tool n).state = r.state := by
    rw [State.tool_setTool_self]
  refine ⟨?_, ?_⟩
  · intro j due named left
    have named : u.jobOf? n = some j := named
    have record : j.record = some n := State.record_of_jobOf? named
    have byJob : u.recallRecord n = u.recallDue n := State.recallRecord_due due
    have hold : u.quarantineRecalled n = held := State.quarantineRecalled_eq (s := u) (by
      rcases due with due | due <;> exact fun e => nomatch due.symm.trans e)
    have withdrawn {v : State} (h : u.withdrawable j = true ∨ (j.phase = .current ∧ u.engine.phase = .offered))
        (leaves : u.withdrawJob held j = v) : exec (.addRecall c tag) s = .next (done v .quarantine) := by
      refine recalled (byJob.trans ((State.recallDue_of_withdrawn named h).trans (hold ▸ leaves))) ?_
      rw [← leaves, State.tool_withdrawJob notReady, inQuarantine]
    refine ⟨fun waiting => ?_, fun o q fetching found released => ?_, fun current offered => ?_,
      fun o q sec fetching found fetched unmarked => ?_⟩
    · exact withdrawn (.inl (State.withdrawable_of (.inl waiting)))
        (State.withdrawJob_of_waiting record inQuarantine waiting)
    · exact withdrawn (.inl (State.withdrawable_of (s := u) (.inr ⟨o, q, fetching, found, released⟩)))
        (State.withdrawJob_of_fetching record inQuarantine fetching)
    · exact withdrawn (.inr ⟨current, offered⟩) (State.withdrawJob_of_current record inQuarantine current)
    · have kept : u.recallDue n = u.markRecalled n := State.recallDue_of_kept named
        (State.not_withdrawable_of_fetched (s := u) fetching found fetched) (by rw [fetching]; exact nofun)
      exact recalled (byJob.trans (kept.trans (mark unmarked))) markedState
  · intro o k w allocated ordered link ticketed again others
    have ordered : u.orderOf? n = some o := ordered
    have byOrder : u.recallRecord n = u.recallAllocated n := State.recallRecord_allocated allocated
    refine ⟨fun released => ?_, fun sec fetched unmarked => ?_⟩
    · have hold : u.quarantineRecalled n = held := State.quarantineRecalled_eq (s := u) fun e =>
        nomatch (show (u.tool n).state = .allocated from allocated).symm.trans e
      refine recalled (byOrder.trans ?_) ?_
      · rw [State.recallAllocated_of_released ordered link released, hold,
          State.ticketToHead_eq (s := held.withoutOrder o.number) (w := w) _ ticketed]
        rfl
      · rw [State.tool_settle]
        · exact inQuarantine
        · exact notReady
    · exact recalled (byOrder.trans ((State.recallAllocated_of_fetched ordered fetched).trans (mark unmarked)))
        (markedState.trans allocated)

end Sys2Proof.Machine

/-! PROOF. LIST_RECALL and READ_RECORD (R18, R25, R26), and the bytes of a record's fields (R2, R3). -/

namespace Sys2Proof.Machine

-- One proof after another: side by side their threads need more memory than the checks allow.
set_option Elab.async false

theorem opListRecall_eq {s : State} {skip count : Byte} (start : skip.toNat ≤ 63) (used : 1 ≤ count.toNat)
    (fits : count.toNat ≤ 29) :
    opListRecall skip count s = (s, okWith (b1 s.recalls.length ++
      b1 ((s.recalls.drop skip.toNat).take count.toNat).length ++
        ((s.recalls.drop skip.toNat).take count.toNat).flatMap bTag)) := by
  rw [opListRecall, if_neg (by omega)]

theorem opReadRecord_eq {s : State} {n : RecNo} {num : BitVec 16} {first count : Byte} (number : num.toNat = n.val)
    (used : 1 ≤ count.toNat) (fits : first.toNat + count.toNat ≤ 24) :
    opReadRecord num first count s = (s, okWith (b2 n.val ++ b1 first.toNat ++ b1 count.toNat ++
      b2 (s.tool n).version.toNat ++ (List.range' first.toNat count.toNat).flatMap (fieldBytes (s.tool n)))) := by
  rw [opReadRecord, recNo?_eq number]
  dsimp only
  rw [if_neg (by omega), if_neg (by omega)]
  rfl

theorem length_leBytes (w v : Nat) : (leBytes w v).length = w := by
  induction w generalizing v with
  | zero => rfl
  | succ w ih => rw [leBytes, List.length_cons, ih]

/-- An optional number takes its marker's byte and its own width, present or not (R203). -/
theorem length_bOpt (w : Nat) (v : Option Nat) : (bOpt w v).length = w + 1 := by
  cases v <;> simp [bOpt, b1, length_leBytes, Nat.add_comm]

theorem leBytes_zero (w : Nat) : leBytes w 0 = List.replicate w 0 := by
  induction w with
  | zero => rfl
  | succ w ih => rw [leBytes, List.replicate_succ, ← ih]; rfl

/-- The bytes of a field are as many as its width says; only the machine place's are written in two ways (R2). -/
theorem fieldWidth_eq (r : ToolRecord) {f : Nat} (h : f < 24) : fieldWidth f = (fieldBytes r f).length := by
  cases placed : r.loc.place? <;> interval_cases f <;>
    simp [placed, fieldWidth, fieldBytes, b1, b2, b3, b4, bTag, bPlan, bPlace, length_leBytes, length_bOpt]

/-- Settles O13: both questions hand the received state back, and the fields' bytes are read off their codes. -/
theorem recordQuestionsAnswerTheTable : Obligations.RecordQuestionsAnswerTheTable := by
  intro s c t
  refine ⟨fun skip count taken start used fits => exec_taken taken rfl rfl (opListRecall_eq start used fits),
    fun num n first count taken number used fits => exec_taken taken rfl rfl (opReadRecord_eq number used fits), ?_⟩
  intro r state place features fault verdict optional
  refine ⟨?_, fun f h => fieldWidth_eq r h⟩
  have stateByte : fieldBytes r 0 = [state] := by
    simp only [fieldBytes, state]
    cases r.state <;> rfl
  have placeBytes : [fieldBytes r 4, fieldBytes r 5, fieldBytes r 6] = place := by
    simp only [fieldBytes, place]
    cases r.loc <;> rfl
  have planBytes : fieldBytes r 13 = features :: (leBytes 1 r.plan.stations ++ leBytes 1 r.plan.samples) := by
    simp only [fieldBytes, bPlan, features]
    cases r.plan.features <;> rfl
  have modeByte : fieldBytes r 14 = [if r.lifeMode = .parts then 1 else 0] := by
    rw [fieldBytes]
    cases r.lifeMode <;> rfl
  have flagsByte : fieldBytes r 21 = [(if r.recalled then 1 else 0) + (if r.damaged then 2 else 0)] := by
    rw [fieldBytes, recordFlags]
    cases r.recalled <;> cases r.damaged <;> rfl
  have faultByte : fieldBytes r 22 = [fault] := by
    simp only [fieldBytes, fault]
    cases r.lastFault <;> rfl
  have verdictByte : fieldBytes r 23 = [verdict] := by
    simp only [fieldBytes, verdict]
    cases r.lastVerdict <;> rfl
  have marked (w : Nat) (v : Option Nat) : bOpt w v = optional w v := by
    cases v with
    | none => rw [bOpt, leBytes_zero]; rfl
    | some x => rfl
  rw [← stateByte, ← placeBytes, ← planBytes, ← modeByte, ← flagsByte, ← faultByte, ← verdictByte, ← marked, ← marked,
    ← marked, ← marked]
  rfl

end Sys2Proof.Machine

/-! PROOF. The idle second, and the requests that open, fill and discard an edit (R28 to R31, R37, R38; log 5). -/

namespace Sys2Proof.Machine

-- One proof after another: side by side their threads need more memory than the checks allow.
set_option Elab.async false

/-- Settles O2: while main power is up the idle second takes one second off each timer; the engine has one only while
ARMED. -/
theorem emptyQueuePassesOneSecond : Obligations.EmptyQueuePassesOneSecond := by
  intro s empty
  have idle : step s = .next s.idleSecond := by rw [step, empty]
  refine ⟨fun up => idle.trans ?_, fun down => idle.trans ?_⟩
  · have engine : s.engine.secondPasses = match s.engine.phase with
        | .armed left => { s.engine with phase := .armed (left - 1) }
        | _ => s.engine := by
      unfold Engine.secondPasses
      cases s.engine.phase <;> rfl
    rw [State.idleSecond, if_pos up, engine]
    rfl
  · rw [State.idleSecond, if_neg (Bool.eq_false_iff.1 down)]

/-! ### The edit of a link (R28, R30, R37, R38) -/

theorem opOpenEdit_eq {s : State} {l : LinkId} {n : RecNo} {num : BitVec 16} {first last mode : Byte}
    {expected : BitVec 16} (number : num.toNat = n.val) (ordered : first.toNat ≤ last.toNat) (within : last.toNat ≤ 23)
    (known : mode.toNat ≤ 1) (used : (s.tool n).state ≠ .empty) :
    let e : Edit :=
      { record := n, tag := (s.tool n).tag, first := first.toNat, last := last.toNat
        mode := if mode = 0 then .always else .ifVersion expected
        pointer := first.toNat, entries := [], truncated := false, idleLeft := 5 }
    opOpenEdit l num first last mode expected s = (s.changeLink l (fun k => { k with edit := some e }),
      okWith (b2 (s.tool n).version.toNat ++ b1 (s.tool n).state.code ++ bFlag (s.link l).edit.isSome)) := by
  rw [opOpenEdit, recNo?_eq number]
  dsimp only
  rw [if_neg (by omega), if_neg (by omega), if_neg used]
  rfl

theorem opEditData_eq {s : State} {l : LinkId} {e : Edit} {bytes left : List Byte} {new : List Entry}
    (opened : (s.link l).edit = some e)
    (reads : readEntries (e.last + 1 - e.pointer) e.pointer bytes = some (new, left)) :
    let e' : Edit :=
      { e with pointer := e.pointer + new.length, entries := e.entries ++ new
               truncated := e.truncated || !left.isEmpty, idleLeft := 5 }
    opEditData l bytes s = (s.changeLink l (fun k => { k with edit := some e' }),
      okWith (b1 (e.pointer + new.length) ++ b1 (e.entries.length + new.length) ++
        bFlag (e.truncated || !left.isEmpty))) := by
  rw [opEditData, opened]
  dsimp only
  rw [reads, ← List.length_append]
  rfl

theorem opAbortEdit_opened {s : State} {l : LinkId} {e : Edit} (opened : (s.link l).edit = some e) :
    opAbortEdit l s = (s.changeLink l (fun k => { k with edit := none }), okWith (b2 e.record.val)) := by
  rw [opAbortEdit, opened]

theorem opAbortEdit_unopened {s : State} {l : LinkId} (unopened : (s.link l).edit = none) :
    opAbortEdit l s = (s, reply .noEdit) := by
  rw [opAbortEdit, unopened]

/-- Settles O14: both requests change the calling link's edit alone, and the expiry is an event that clears it. -/
theorem editRequestsFillTheBuffer : Obligations.EditRequestsFillTheBuffer := by
  intro s c t
  have kept : (t.link c.link).edit = (s.link c.link).edit := s.edit_received _ _
  refine ⟨fun n num first last mode expected taken number ordered within known used => exec_taken taken rfl rfl ?_,
    fun e bytes new left taken opened reads => exec_taken taken rfl rfl ?_,
    fun l up => State.event_up (editExpires l) s up⟩
  · rw [← kept]
    exact opOpenEdit_eq (s := t) number ordered within known used
  · exact opEditData_eq (kept.trans opened) reads

/-- Settles O18, by the two answers of ABORT_EDIT. -/
theorem editsAreDiscardedWhole : Obligations.EditsAreDiscardedWhole := by
  intro s c t
  have kept : (t.link c.link).edit = (s.link c.link).edit := s.edit_received _ _
  exact ⟨fun e taken opened => exec_taken taken rfl rfl (opAbortEdit_opened (kept.trans opened)),
    fun taken unopened => exec_taken taken rfl rfl (opAbortEdit_unopened (kept.trans unopened))⟩

/-! ### The bytes of EDIT_DATA (R29 to R31) -/

/-- The byte of an operation (R29). -/
def EditOp.code : EditOp → Byte
  | .skip => 0
  | .set => 1
  | .setIfLower => 2
  | .setIfHigher => 3

theorem editOp?_code (op : EditOp) : editOp? op.code = some op := by
  cases op <;> rfl

theorem eq_code_of_editOp? {b : Byte} {op : EditOp} (h : editOp? b = some op) : b = op.code := by
  unfold editOp? at h
  split_ifs at h with skip set lower higher <;> cases h
  · exact skip
  · exact set
  · exact lower
  · exact higher

/-- What an entry read at a field holds: its field's bytes, none for SKIP, and a present-marker that is 0 or 1
(R29, R30). -/
structure Entry.ReadsAt (e : Entry) (f : Nat) : Prop where
  field  : e.field = f
  length : e.value.length = if e.op = .skip then 0 else fieldWidth f
  marker : e.op ≠ .skip → fieldOptional f = true → (e.value.headD 0).toNat ≤ 1

/-- The bytes that spell an entry (R29). -/
def Entry.spelled (e : Entry) : List Byte := e.op.code :: e.value

/-- A value's present-marker is refused exactly when it is above 1 (R31); a value without bytes has none. -/
theorem markerRefused_eq_false_iff {optional : Bool} {v : List Byte} :
    (optional && v.any (fun _ => decide (1 < (v.headD 0).toNat))) = false ↔
      (optional = true → (v.headD 0).toNat ≤ 1) := by
  have marker : v.any (fun _ => decide (1 < (v.headD 0).toNat)) = decide (1 < (v.headD 0).toNat) := by
    cases v with
    | nil => rfl
    | cons b bs => cases h : decide (1 < ((b :: bs).headD 0).toNat) <;> simp
  rw [marker]
  cases optional <;> simp

theorem readEntries_skip {b : Byte} (skip : editOp? b = some .skip) (k f : Nat) (bs : List Byte) :
    readEntries (k + 1) f (b :: bs) =
      (readEntries k (f + 1) bs).map fun q => ({ field := f, op := .skip, value := [] } :: q.1, q.2) := by
  rw [readEntries, skip]

/-- An operation other than SKIP reads its field's bytes, and is refused without them or with a wrong marker (R31). -/
theorem readEntries_valued {b : Byte} {op : EditOp} (named : editOp? b = some op) (valued : op ≠ .skip) (k f : Nat)
    (bs : List Byte) :
    readEntries (k + 1) f (b :: bs) =
      if bs.length < fieldWidth f then none
      else if (fieldOptional f && (bs.take (fieldWidth f)).any
          (fun _ => decide (1 < ((bs.take (fieldWidth f)).headD 0).toNat))) = true then none
      else (readEntries k (f + 1) (bs.drop (fieldWidth f))).map fun q =>
        ({ field := f, op := op, value := bs.take (fieldWidth f) } :: q.1, q.2) := by
  rw [readEntries, named]
  cases op
  case skip => exact absurd rfl valued
  all_goals rfl

/-- An entry's own bytes are read as that entry, and the rest at the next field (R29, R30). -/
theorem readEntries_spelled {e : Entry} {f : Nat} (h : e.ReadsAt f) (k : Nat) (rest : List Byte) :
    readEntries (k + 1) f (e.spelled ++ rest) = (readEntries k (f + 1) rest).map fun q => (e :: q.1, q.2) := by
  obtain ⟨field, op, value⟩ := e
  obtain ⟨rfl, length, marker⟩ := h
  show readEntries (k + 1) field (op.code :: (value ++ rest)) = _
  by_cases skip : op = .skip
  · subst skip
    obtain rfl := List.length_eq_zero_iff.1 length
    exact readEntries_skip rfl k field rest
  · have length : value.length = fieldWidth field := length.trans (if_neg skip)
    rw [readEntries_valued (editOp?_code op) skip, ← length, List.take_left', List.drop_left',
      if_neg (by simp), if_neg]
    · exact Bool.eq_false_iff.1 (markerRefused_eq_false_iff.2 (marker skip))
    · rfl
    · rfl

/-- What is read of some bytes begins with an entry that they begin with (R29, R30). -/
theorem spelled_of_readEntries {k f : Nat} {b : Byte} {bs left : List Byte} {es : List Entry}
    (h : readEntries (k + 1) f (b :: bs) = some (es, left)) :
    ∃ e es' rest, es = e :: es' ∧ e.ReadsAt f ∧ b :: bs = e.spelled ++ rest ∧
      readEntries k (f + 1) rest = some (es', left) := by
  cases named : editOp? b with
  | none => rw [readEntries, named] at h; cases h
  | some op =>
    obtain rfl := eq_code_of_editOp? named
    by_cases skip : op = .skip
    · subst skip
      rw [readEntries_skip named] at h
      obtain ⟨q, reads, e⟩ := Option.map_eq_some_iff.1 h
      cases e
      exact ⟨_, _, bs, rfl, ⟨rfl, rfl, fun valued => absurd rfl valued⟩, rfl, reads⟩
    · rw [readEntries_valued named skip] at h
      split_ifs at h with short refused
      obtain ⟨q, reads, e⟩ := Option.map_eq_some_iff.1 h
      cases e
      refine ⟨_, _, bs.drop (fieldWidth f), rfl, ⟨rfl, ?_, fun _ => ?_⟩, ?_, reads⟩
      · rw [if_neg skip, List.length_take, Nat.min_eq_left (Nat.le_of_not_lt short)]
      · exact markerRefused_eq_false_iff.1 (Bool.eq_false_iff.2 refused)
      · exact congrArg (op.code :: ·) (List.take_append_drop _ bs).symm

/-- A statement on each entry of a list by its place, taken apart at the first. -/
theorem forall_getElem?_cons {α : Type} {a : α} {l : List α} {p : Nat → α → Prop} :
    (∀ i b, (a :: l)[i]? = some b → p i b) ↔ p 0 a ∧ ∀ i b, l[i]? = some b → p (i + 1) b := by
  refine ⟨fun h => ⟨h 0 a rfl, fun i b => h (i + 1) b⟩, fun ⟨first, rest⟩ i b h => ?_⟩
  cases i with
  | zero => exact Option.some.inj h ▸ first
  | succ i => exact rest i b h

/-- What one EDIT_DATA reads, exactly (R29 to R31). -/
theorem readEntries_eq_some_iff : ∀ (k f : Nat) (bytes left : List Byte) (es : List Entry),
    readEntries k f bytes = some (es, left) ↔
      es.length ≤ k ∧ (es.length < k → left = []) ∧ (∀ (i : Nat) (e : Entry), es[i]? = some e → e.ReadsAt (f + i)) ∧
        bytes = es.flatMap Entry.spelled ++ left
  | 0, f, bytes, left, es => by
    rw [readEntries]
    cases es with
    | nil => simp
    | cons e es => simp
  | k + 1, f, bytes, left, es => by
    constructor
    · intro h
      cases bytes with
      | nil =>
        cases h
        simp
      | cons b bs =>
        obtain ⟨e, es, rest, rfl, reads, spelled, following⟩ := spelled_of_readEntries h
        obtain ⟨count, ended, entries, rfl⟩ := (readEntries_eq_some_iff k (f + 1) rest left es).1 following
        refine ⟨Nat.succ_le_succ count, fun room => ended (Nat.lt_of_succ_lt_succ room), ?_, ?_⟩
        · refine forall_getElem?_cons.2 ⟨reads, fun i e h => ?_⟩
          rw [Nat.add_comm i 1, ← Nat.add_assoc]
          exact entries i e h
        · rw [spelled, List.flatMap_cons, List.append_assoc]
    · rintro ⟨count, ended, entries, rfl⟩
      cases es with
      | nil =>
        obtain rfl := ended (Nat.succ_pos k)
        rfl
      | cons e es =>
        obtain ⟨reads, entries⟩ := forall_getElem?_cons.1 entries
        have following : readEntries k (f + 1) (es.flatMap Entry.spelled ++ left) = some (es, left) := by
          refine (readEntries_eq_some_iff k (f + 1) _ left es).2 ⟨Nat.le_of_succ_le_succ count,
            fun room => ended (Nat.succ_lt_succ room), fun i e h => ?_, rfl⟩
          rw [Nat.add_assoc, Nat.add_comm 1 i]
          exact entries i e h
        rw [List.flatMap_cons, List.append_assoc, readEntries_spelled (f := f) reads, following]
        rfl

/-- Settles O15, by `readEntries_eq_some_iff`. -/
theorem editEntriesFollowTheFieldPointer : Obligations.EditEntriesFollowTheFieldPointer := by
  intro k f bytes left es opByte
  have spelled : (fun e : Entry => opByte e.op :: e.value) = Entry.spelled := by
    funext e
    rw [Entry.spelled]
    cases e.op <;> rfl
  rw [spelled, readEntries_eq_some_iff]
  have reads (i : Nat) (e : Entry) : e.ReadsAt (f + i) ↔ e.field = f + i ∧
      e.value.length = (if e.op = .skip then 0 else fieldWidth (f + i)) ∧
      (e.op ≠ .skip → fieldOptional (f + i) = true → (e.value.headD 0).toNat ≤ 1) :=
    ⟨fun h => ⟨h.field, h.length, h.marker⟩, fun ⟨field, length, marker⟩ => ⟨field, length, marker⟩⟩
  simp only [reads]

end Sys2Proof.Machine

/-! PROOF. CLOSE_EDIT (R32 to R36): which entries a role may commit, what an entry does to the record, and the commit as
one change. -/

namespace Sys2Proof.Machine

-- One proof after another: side by side their threads need more memory than the checks allow.
set_option Elab.async false

/-! ### Permissions (R32, R33) -/

theorem RecState.retirable_iff {st : RecState} :
    st.retirable = true ↔ st = .presetDue ∨ st = .ready ∨ st = .quarantine ∨ st = .worn ∨ st = .check := by
  cases st <;> simp [RecState.retirable]

theorem Location.isCrib_iff {loc : Location} : loc.isCrib = true ↔ ∃ p, loc = .crib p := by
  cases loc <;> simp [Location.isCrib, Location.pocket?]

theorem ToolRecord.inMachineOn_iff {r : ToolRecord} {l : LinkId} :
    r.inMachineOn l = true ↔ r.state = .inMachine ∧ ∃ q, r.loc = .machine q ∧ q.link = l := by
  have place : r.loc.place?.map (·.link) = some l ↔ ∃ q, r.loc = .machine q ∧ q.link = l := by
    cases r.loc <;> simp [Location.place?]
  rw [ToolRecord.inMachineOn, Bool.and_eq_true, beq_iff_eq, beq_iff_eq, place]

/-- The supervisor's permissions, by field (R33). -/
theorem entryPermitted_supervisor_iff {l : LinkId} {r : ToolRecord} {x : Entry} :
    entryPermitted .supervisor l r x = true ↔
      (x.field = 16 ∧ r.state ≠ .empty) ∨
        ((x.field = 3 ∨ (7 ≤ x.field ∧ x.field ≤ 12) ∨ x.field = 15) ∧ r.state.retirable = true) ∨
        ((x.field = 13 ∨ x.field = 14) ∧ r.state.retirable = true ∧ x.op = .set) := by
  unfold entryPermitted
  dsimp only
  split_ifs with life number plan
  · simp [life]
  · simp [life, number]; omega
  · simp [life, number, plan]
  · simp [life, number, plan]

/-- A cell lowers the life of a tool in its machine, and nothing else (R33). -/
theorem entryPermitted_cell_iff {l : LinkId} {r : ToolRecord} {x : Entry} :
    entryPermitted .cell l r x = true ↔ x.field = 16 ∧ x.op = .setIfLower ∧ r.inMachineOn l = true := by
  simp [entryPermitted, and_assoc]

theorem entryPermitted_iff {role : Role} {l : LinkId} {r : ToolRecord} {x : Entry} :
    entryPermitted role l r x = true ↔
      (role = .supervisor ∧ entryPermitted .supervisor l r x = true) ∨
        (role = .cell ∧ entryPermitted .cell l r x = true) := by
  cases role <;> simp [entryPermitted]

theorem refusedField?_eq_none {role : Role} {l : LinkId} {r : ToolRecord} {es : List Entry}
    (permitted : ∀ x ∈ es, x.op ≠ .skip → entryPermitted role l r x = true) : refusedField? role l r es = none := by
  rw [refusedField?, Option.map_eq_none_iff, List.find?_eq_none]
  simpa using permitted

/-- The first entry not permitted is the one answered (R32). -/
theorem refusedField?_append_cons {role : Role} {l : LinkId} {r : ToolRecord} {before after : List Entry} {x : Entry}
    (permitted : ∀ y ∈ before, y.op ≠ .skip → entryPermitted role l r y = true) (judged : x.op ≠ .skip)
    (refused : ¬ entryPermitted role l r x = true) : refusedField? role l r (before ++ x :: after) = some x.field := by
  have passed : before.find? (fun e => e.op != .skip && !entryPermitted role l r e) = none := by
    rw [List.find?_eq_none]
    simpa using permitted
  rw [refusedField?, List.find?_append, passed, Option.none_or, List.find?_cons_of_pos]
  · rfl
  · simpa using And.intro judged (Bool.eq_false_iff.2 refused)

theorem editBlocked?_eq_none {r : ToolRecord} {e : Edit} (carried : r.tag = e.tag)
    (current : ∀ v, e.mode = .ifVersion v → r.version = v) : editBlocked? r e = none := by
  rw [editBlocked?, if_neg (not_not.2 carried)]
  cases mode : e.mode with
  | always => rfl
  | ifVersion v => exact if_pos (current v mode)

/-! ### The entries (R29, R34) -/

/-- A field that holds one number and that an edit may write (R33). -/
def NumberField (f : Nat) : Prop := f = 3 ∨ (7 ≤ f ∧ f ≤ 12) ∨ f = 15 ∨ f = 16

theorem NumberField.cases {f : Nat} (h : NumberField f) :
    f = 3 ∨ f = 7 ∨ f = 8 ∨ f = 9 ∨ f = 10 ∨ f = 11 ∨ f = 12 ∨ f = 15 ∨ f = 16 := by
  unfold NumberField at h
  omega

/-- A permitted entry is at a number field, or at the plan or the life mode (R33). -/
theorem numberField_of_permitted {role : Role} {l : LinkId} {r : ToolRecord} {x : Entry}
    (permitted : entryPermitted role l r x = true) (plan : x.field ≠ 13) (mode : x.field ≠ 14) :
    NumberField x.field := by
  unfold NumberField
  rcases entryPermitted_iff.1 permitted with ⟨-, h⟩ | ⟨-, h⟩
  · rcases entryPermitted_supervisor_iff.1 h with ⟨life, -⟩ | ⟨number, -⟩ | ⟨other, -⟩ <;> omega
  · obtain ⟨life, -⟩ := entryPermitted_cell_iff.1 h
    omega

theorem numberAt_eq {f : Nat} (h : NumberField f) (r : ToolRecord) : numberAt r f =
    if f = 3 then r.cls else if f = 7 then r.nomLen else if f = 8 then r.nomRad else if f = 9 then r.lenTol
    else if f = 10 then r.radTol else if f = 11 then r.runoutLimit else if f = 12 then r.wearLimit
    else if f = 15 then r.lifeInit else r.lifeRem := by
  rcases h.cases with rfl | rfl | rfl | rfl | rfl | rfl | rfl | rfl | rfl <;> rfl

theorem writeNumber_eq {f : Nat} (h : NumberField f) (r : ToolRecord) (v : Nat) : writeNumber r f v =
    if f = 3 then { r with cls := v } else if f = 7 then { r with nomLen := v }
    else if f = 8 then { r with nomRad := v } else if f = 9 then { r with lenTol := v }
    else if f = 10 then { r with radTol := v } else if f = 11 then { r with runoutLimit := v }
    else if f = 12 then { r with wearLimit := v } else if f = 15 then { r with lifeInit := v }
    else { r with lifeRem := v } := by
  rcases h.cases with rfl | rfl | rfl | rfl | rfl | rfl | rfl | rfl | rfl <;> rfl

theorem rangeNumber_eq {f : Nat} (h : NumberField f) (r : ToolRecord) (v : Int) : rangeNumber r f v =
    if f = 3 then max 1 (min 4095 v.toNat) else if f = 7 then min 9999999 v.toNat
    else if f = 8 then min 1999999 v.toNat else if f = 15 then min 16777215 v.toNat
    else if f = 16 then min r.lifeInit (min 16777215 v.toNat) else min 65535 v.toNat := by
  rcases h.cases with rfl | rfl | rfl | rfl | rfl | rfl | rfl | rfl | rfl <;> rfl

theorem applyEntry_skip {x : Entry} (skip : x.op = .skip) (a : Applied) : applyEntry a x = a := by
  rw [applyEntry, if_pos skip]

/-- An entry at the plan writes the ranged plan (R4, R34). -/
theorem applyEntry_plan {x : Entry} (valued : x.op ≠ .skip) (plan : x.field = 13) (a : Applied) : applyEntry a x =
    { record := { a.record with plan := rangePlan (x.byte 0) (x.byte 1) (x.byte 2) }
      notApplied := a.notApplied
      ranged := if (1 ≤ x.byte 0 ∧ x.byte 0 ≤ 3) ∧ (1 ≤ x.byte 1 ∧ x.byte 1 ≤ 8) ∧
          (x.byte 2 = 1 ∨ x.byte 2 = 2 ∨ x.byte 2 = 4 ∨ x.byte 2 = 8) then a.ranged else a.ranged ++ [13] } := by
  rw [applyEntry, if_neg valued, if_pos plan]
  simp only [← planClamped_eq_false_iff]
  cases planClamped (x.byte 0) (x.byte 1) (x.byte 2) <;> rfl

/-- An entry at the life mode writes the ranged mode (R4, R34). -/
theorem applyEntry_lifeMode {x : Entry} (valued : x.op ≠ .skip) (mode : x.field = 14) (a : Applied) : applyEntry a x =
    { record := { a.record with lifeMode := rangeLifeMode (x.byte 0) }
      notApplied := a.notApplied
      ranged := if x.byte 0 ≤ 1 then a.ranged else a.ranged ++ [14] } := by
  rw [applyEntry, if_neg valued, if_neg (by omega), if_pos mode]
  simp only [← Nat.not_le, ite_not]

/-- An entry at any other field writes its ranged number when its operation says so (R29, R34). -/
theorem applyEntry_number {x : Entry} (valued : x.op ≠ .skip) (plan : x.field ≠ 13) (mode : x.field ≠ 14)
    (a : Applied) :
    let v := rangeNumber a.record x.field (entryNumber x)
    let writes := x.op.writes v (numberAt a.record x.field)
    applyEntry a x =
      { record := if writes then writeNumber a.record x.field v else a.record
        notApplied := if writes then a.notApplied else a.notApplied + 1
        ranged := if (v : Int) = entryNumber x then a.ranged else a.ranged ++ [x.field] } := by
  rw [applyEntry, if_neg valued, if_neg plan, if_neg mode]
  simp only [ne_eq, ite_not]

/-! ### The commit (R8, R9, R11, R34 to R36) -/

theorem Features.hasLength_iff {f : Features} : f.hasLength = true ↔ f ≠ .radius := by
  cases f <;> simp [Features.hasLength]

theorem Features.hasRadius_iff {f : Features} : f.hasRadius = true ↔ f ≠ .length := by
  cases f <;> simp [Features.hasRadius]

theorem ToolRecord.covered_eq_false_iff {r : ToolRecord} : r.covered = false ↔
    (r.plan.features ≠ .radius ∧ r.presetLen = none) ∨ (r.plan.features ≠ .length ∧ r.presetRad = none) := by
  simp only [ToolRecord.covered, Bool.and_eq_false_iff, Bool.or_eq_false_iff, Bool.not_eq_false',
    Features.hasLength_iff, Features.hasRadius_iff, Option.isSome_eq_false_iff, Option.isNone_iff_eq_none]

theorem editConsequences_eq (old new : ToolRecord) : editConsequences old new =
    { new with
      lifeRem := min new.lifeRem new.lifeInit
      state := if new.state = .ready ∧ new.plan ≠ old.plan ∧
          decide ((new.plan.features ≠ .radius ∧ new.presetLen = none) ∨
            (new.plan.features ≠ .length ∧ new.presetRad = none)) = true
        then (if new.recalled then .quarantine else .presetDue) else new.state } := by
  rw [editConsequences, recallGate_presetDue]
  simp only [decide_eq_true_eq, ToolRecord.covered_eq_false_iff]

/-- Without a READY record there is nothing but the life to lower (R8, R9). -/
theorem editConsequences_of_not_ready {old new : ToolRecord} (state : new.state ≠ .ready)
    (life : new.lifeRem ≤ new.lifeInit) : editConsequences old new = new := by
  rw [editConsequences, if_neg fun h => state h.1, Nat.min_eq_left life]

/-- A change as the new record with its version counted (R11). -/
theorem ToolRecord.change_eq (old new : ToolRecord) : old.change new =
    { new with version := if { new with version := old.version } = old then old.version else old.version + 1 } := by
  unfold ToolRecord.change
  split
  · next same => exact same.symm
  · rfl

/-- A change that moves the life remaining raises the version by one (R11). -/
theorem ToolRecord.change_of_lifeRem (old new : ToolRecord) (h : new.lifeRem ≠ old.lifeRem) :
    old.change new = { new with version := old.version + 1 } := by
  rw [ToolRecord.change, if_neg]
  intro e
  rw [← e] at h
  exact h rfl

theorem editPrompts_iff {old new : ToolRecord} : editPrompts old new = true ↔
    old.state = .ready ∧ (∃ p, old.loc = .crib p) ∧ (old.cls ≠ new.cls ∨ old.lifeRem < new.lifeRem) := by
  simp [editPrompts, Location.isCrib_iff, and_assoc]

/-- A record already counted as one change stays as it is (R11). -/
theorem State.asOneChange_eq_self {t s : State} {n : RecNo} {r : ToolRecord} (h : t.tool n = (s.tool n).change r) :
    t.asOneChange s n = t := by
  rw [State.asOneChange, h, ToolRecord.change_change, ← h, State.setTool_self]

/-- The commit, from what its entries leave and what follows from that: one change, with the pass it prompts counted
in (R11, R34 to R36; log 14). -/
theorem commitEdit_eq {l : LinkId} {e : Edit} {s : State} {a : Applied} {new : ToolRecord}
    (applied : applyEntries (s.tool e.record) e.entries = a)
    (follows : editConsequences (s.tool e.record) a.record = new) :
    let old := s.tool e.record
    let u := (s.setTool e.record (old.change new)).changeLink l fun k => { k with edit := none }
    let v := if old.state = .ready ∧ (∃ p, old.loc = .crib p) ∧ (old.cls ≠ new.cls ∨ old.lifeRem < new.lifeRem)
      then u.settle true else u
    let w := v.setTool e.record (old.change (v.tool e.record))
    commitEdit l e s = (w,
      { code := if e.truncated then .committedTruncated else .committed
        results := b1 ((List.range 24).filter fun f => f != 1 && fieldBytes old f != fieldBytes new f).length ++
          b1 a.notApplied ++ b1 a.ranged.length ++ bOpt 1 a.ranged.head? ++ b2 (w.tool e.record).version.toNat ++
          b1 (w.tool e.record).state.code }) := by
  intro old u v w
  have counted : u.asOneChange s e.record = u := State.asOneChange_eq_self (s.tool_setTool_self e.record _)
  have after : (if editPrompts old new then (u.settle true).asOneChange s e.record else u) = w := by
    by_cases prompts : editPrompts old new = true
    · have settled : v = u.settle true := if_pos (editPrompts_iff.1 prompts)
      rw [if_pos prompts]
      exact (congrArg (State.asOneChange · s e.record) settled).symm
    · have unsettled : v = u := if_neg (mt editPrompts_iff.2 prompts)
      rw [if_neg prompts]
      exact counted.symm.trans (congrArg (State.asOneChange · s e.record) unsettled).symm
  subst applied follows
  rw [← List.countP_eq_length_filter, ← after]
  rfl

/-- Permitted entries of an edit that is not blocked are committed (R32). -/
theorem opCloseEdit_permitted {s : State} {l : LinkId} {e : Edit} (opened : (s.link l).edit = some e)
    (unblocked : editBlocked? (s.tool e.record) e = none)
    (permitted : ∀ x ∈ e.entries, x.op ≠ .skip → entryPermitted (s.link l).role l (s.tool e.record) x = true) :
    opCloseEdit l s = commitEdit l e s := by
  rw [opCloseEdit, opened]
  dsimp only
  rw [unblocked]
  dsimp only
  rw [refusedField?_eq_none permitted]

/-- The lowest field not permitted is answered, and nothing changes (R32). -/
theorem opCloseEdit_refused {s : State} {l : LinkId} {e : Edit} {f : Nat} (opened : (s.link l).edit = some e)
    (unblocked : editBlocked? (s.tool e.record) e = none)
    (refused : refusedField? (s.link l).role l (s.tool e.record) e.entries = some f) :
    opCloseEdit l s = (s, { code := .fieldRefused, results := b1 f }) := by
  rw [opCloseEdit, opened]
  dsimp only
  rw [unblocked]
  dsimp only
  rw [refused]

/-- Settles O16: entry by entry the statement's edit is the model's, and so is the commit that follows; the first entry
not permitted is the one that the rule finds. -/
theorem closeEditCommitsTheEdit : Obligations.CloseEditCommitsTheEdit := by
  intro s c e taken opened carried current old retirable permitted number held put ranged one a uncovered new moved u
    v w
  have opened : ((s.received c.link).link c.link).edit = some e := (s.edit_received _ _).trans opened
  have unblocked : editBlocked? ((s.received c.link).tool e.record) e = none := editBlocked?_eq_none carried current
  have allowed (x : Entry) :
      entryPermitted ((s.received c.link).link c.link).role c.link old x = true ↔ permitted x := by
    rw [State.role_received, entryPermitted_iff, entryPermitted_supervisor_iff, entryPermitted_cell_iff,
      RecState.retirable_iff, ToolRecord.inMachineOn_iff]
  refine ⟨fun all => ?_, fun before x after entries passed judged refused => ?_⟩
  · have same (b : Applied) (x : Entry) (listed : x ∈ e.entries) : applyEntry b x = one b x := by
      by_cases skip : x.op = .skip
      · exact (applyEntry_skip skip b).trans (if_pos skip).symm
      refine Eq.trans ?_ (if_neg skip).symm
      by_cases plan : x.field = 13
      · exact (applyEntry_plan skip plan b).trans (if_pos plan).symm
      refine Eq.trans ?_ (if_neg plan).symm
      by_cases mode : x.field = 14
      · exact (applyEntry_lifeMode skip mode b).trans (if_pos mode).symm
      refine Eq.trans ?_ (if_neg mode).symm
      have field : NumberField x.field := numberField_of_permitted ((allowed x).2 (all x listed skip)) plan mode
      rw [applyEntry_number skip plan mode, rangeNumber_eq field, numberAt_eq field, writeNumber_eq field]
      rfl
    have applied : applyEntries old e.entries = a := List.foldl_ext _ _ _ same
    have follows : editConsequences old a.record = new := editConsequences_eq old a.record
    have committed := commitEdit_eq (l := c.link) (s := s.received c.link) applied follows
    simp only [ToolRecord.change_eq] at committed
    exact exec_taken taken rfl rfl ((opCloseEdit_permitted opened unblocked fun x listed valued =>
      (allowed x).2 (all x listed valued)).trans committed)
  · refine exec_taken taken rfl rfl (opCloseEdit_refused opened unblocked ?_)
    rw [entries]
    exact refusedField?_append_cons (fun y earlier valued => (allowed y).2 (passed y earlier valued)) judged
      (mt (allowed x).1 refused)

/-! ### A cell's edit of life remaining (R8, R29, R33, R34) -/

theorem State.edit_answered (t : State) (c : Caller) (code : Nat) (outcome : ReplyCode) (results : List Byte)
    (l : LinkId) : ((t.answered c code outcome results).link l).edit = (t.link l).edit := by
  rw [State.answered, State.link_judgeAttention, State.judgedLink]
  by_cases h : l = c.link
  · rw [h, State.link_changeLink_self]
  · rw [State.link_changeLink_ne _ _ h]

/-- What an edit leaves of a record: its entries applied in order, and what follows from them (R8, R9, R34). -/
def Edit.leaves (e : Edit) (r : ToolRecord) : ToolRecord := editConsequences r (applyEntries r e.entries).record

/-- On a record that is not READY a commit of permitted entries prompts no pass: the record changes and the edit is
closed (R36). -/
theorem exec_closeEdit_of_not_ready {s : State} {c : Caller} {e : Edit} (taken : s.Takes c 0x0C)
    (opened : (s.link c.link).edit = some e) (unblocked : editBlocked? (s.tool e.record) e = none)
    (permitted : ∀ x ∈ e.entries, x.op ≠ .skip →
      entryPermitted (s.link c.link).role c.link (s.tool e.record) x = true)
    (state : (s.tool e.record).state ≠ .ready) : ∃ code results, exec (.closeEdit c) s = .next (State.answered
      (((s.received c.link).changeTool e.record e.leaves).changeLink c.link fun k => { k with edit := none })
        c 0x0C code results) := by
  have opened : ((s.received c.link).link c.link).edit = some e := (s.edit_received _ _).trans opened
  have permitted : ∀ x ∈ e.entries, x.op ≠ .skip →
      entryPermitted ((s.received c.link).link c.link).role c.link ((s.received c.link).tool e.record) x = true := by
    rw [State.role_received]
    exact permitted
  have unprompted : (commitEdit c.link e (s.received c.link)).1 =
      ((s.received c.link).changeTool e.record e.leaves).changeLink c.link fun k => { k with edit := none } :=
    if_neg fun prompts => state (editPrompts_iff.1 prompts).1
  have closes : opCloseEdit c.link (s.received c.link) = commitEdit c.link e (s.received c.link) :=
    opCloseEdit_permitted opened unblocked permitted
  exact ⟨_, _, exec_taken taken rfl rfl (closes.trans (Prod.ext unprompted rfl))⟩

/-- One SET_IF_LOWER on life remaining writes the ranged number when it is lower (R29, R34). -/
theorem applyEntries_lowerLife {x : Entry} (field : x.field = 16) (op : x.op = .setIfLower) (r : ToolRecord) :
    (applyEntries r [x]).record =
      if min r.lifeInit (min maxLife (leNat x.value)) < r.lifeRem
      then { r with lifeRem := min r.lifeInit (min maxLife (leNat x.value)) } else r := by
  show (applyEntry { record := r, notApplied := 0, ranged := [] } x).record = _
  rw [applyEntry_number (by rw [op]; exact nofun) (by omega) (by omega)]
  simp [field, op, EditOp.writes, numberAt, writeNumber, rangeNumber, entryNumber]

/-- One SET_IF_LOWER on life remaining, as the one change it is: the version rises exactly when the life is lowered
(R8, R11, R29). -/
theorem change_lowerLife {x : Entry} (field : x.field = 16) (op : x.op = .setIfLower) {r : ToolRecord}
    (state : r.state ≠ .ready) (bounded : r.lifeRem ≤ r.lifeInit) (inRange : leNat x.value ≤ maxLife) :
    r.change (editConsequences r (applyEntries r [x]).record) =
      if leNat x.value < r.lifeRem then { r with lifeRem := leNat x.value, version := r.version + 1 } else r := by
  rw [applyEntries_lowerLife field op, Nat.min_eq_right inRange]
  by_cases lower : leNat x.value < r.lifeRem
  · have within : leNat x.value ≤ r.lifeInit := lower.le.trans bounded
    have follows : editConsequences r { r with lifeRem := leNat x.value } = { r with lifeRem := leNat x.value } :=
      editConsequences_of_not_ready state within
    rw [Nat.min_eq_right within, if_pos lower, if_pos lower, follows, ToolRecord.change_of_lifeRem _ _ lower.ne]
  · rw [if_neg (by omega), if_neg lower, editConsequences_of_not_ready state bounded, ToolRecord.change_self]

/-- Settles O17: the entry is permitted to the cell, the record is not READY, and the number it spells is in range. -/
theorem cellEditOnlyLowersLife : Obligations.CellEditOnlyLowersLife := by
  intro s c e x y z taken cell opened carried always whole entries mine bounded r v
  have spelled : leNat [x, y, z] = v := by
    simp only [leNat, v]
    omega
  have inRange : leNat [x, y, z] ≤ maxLife := by
    simp only [leNat, maxLife]
    omega
  have state : r.state ≠ .ready := by
    rw [(ToolRecord.inMachineOn_iff.1 mine).1]
    exact nofun
  have unblocked : editBlocked? r e = none := editBlocked?_eq_none carried fun w mode => nomatch always.symm.trans mode
  have permitted : ∀ w ∈ e.entries, w.op ≠ .skip → entryPermitted (s.link c.link).role c.link r w = true := by
    rw [entries, cell]
    intro w listed _
    obtain rfl := List.mem_singleton.1 listed
    exact entryPermitted_cell_iff.2 ⟨rfl, rfl, mine⟩
  obtain ⟨code, results, run⟩ := exec_closeEdit_of_not_ready taken opened unblocked permitted state
  have changed : r.change (e.leaves r) =
      if v < r.lifeRem then { r with lifeRem := v, version := r.version + 1 } else r := by
    rw [Edit.leaves, entries, ← spelled]
    exact change_lowerLife rfl rfl state bounded inRange
  have record := ((s.received c.link).tool_changeTool_self e.record e.leaves).trans changed
  refine ⟨_, run, ?_, fun lower => ?_, fun higher => ?_, fun k other => ?_⟩
  · rw [State.edit_answered, State.link_changeLink_self]
  · exact record.trans (if_pos lower)
  · exact record.trans (if_neg (Nat.not_lt.2 higher))
  · exact (s.received c.link).tool_changeTool_ne e.leaves other

end Sys2Proof.Machine

/-! PROOF. What it is for a change to keep the axes: it moves neither length counter, and it keeps the active values,
the parked slots and the angle in their ranges (R41, R43, R55, R57, R208). The settings, the end of a job and the owning
rule of every request do. A change that touches neither the capture unit nor the settings keeps the axes by the defaults
of the structure. -/

namespace Sys2Proof.Machine

-- One proof after another: side by side their threads need more memory than the checks allow.
set_option Elab.async false

/-- A change moves neither length counter, and keeps the settings, the parked slots and the angle in their ranges. -/
structure State.KeepsAxes (s t : State) : Prop where
  z      : t.capture.z = s.capture.z := by exact rfl
  x      : t.capture.x = s.capture.x := by exact rfl
  ranged : s.SettingsRanged → t.SettingsRanged := by exact fun h => ⟨h.active, h.parked, h.angle⟩

theorem State.KeepsAxes.refl (s : State) : s.KeepsAxes s := {}

theorem State.KeepsAxes.of_eq {s t : State} (h : t = s) : s.KeepsAxes t := h ▸ .refl s

theorem State.KeepsAxes.trans {s t u : State} (h : s.KeepsAxes t) (k : t.KeepsAxes u) : s.KeepsAxes u where
  z := k.z.trans h.z
  x := k.x.trans h.x
  ranged := k.ranged ∘ h.ranged

theorem State.KeepsAxes.foldl {α : Type} {f : State → α → State} (hf : ∀ s a, State.KeepsAxes s (f s a)) :
    ∀ (as : List α) (s : State), s.KeepsAxes (as.foldl f s)
  | [], s => .refl s
  | a :: as, s => (hf s a).trans (foldl hf as (f s a))

/-- A change that leaves the capture unit, the settings and the parked slots alone keeps the axes. -/
theorem State.KeepsAxes.of_same {s t : State} (capture : t.capture = s.capture) (settings : t.settings = s.settings)
    (parked : t.parked = s.parked) : s.KeepsAxes t where
  z := congrArg Capture.z capture
  x := congrArg Capture.x capture
  ranged h := ⟨settings ▸ h.active, parked ▸ h.parked, by rw [capture, settings]; exact h.angle⟩

/-- An issue pass, a fetch round and the engine's choice keep the axes (R75, R132, R148). -/
theorem State.Settles.keepsAxes {s t : State} (h : s.Settles t) : s.KeepsAxes t :=
  .of_same (by rw [h.frame]) (by rw [h.frame]) (by rw [h.frame])

theorem State.keepsAxes_settle (s : State) (pass : Bool) : s.KeepsAxes (s.settle pass) :=
  (s.settles_settle pass).keepsAxes

theorem State.keepsAxes_autoCalCheck (s : State) : s.KeepsAxes s.autoCalCheck := (s.settles_autoCalCheck).keepsAxes

/-! ### Settings and their ranges (R55 to R58, R208) -/

theorem Settings.get_put (t : Settings) (i k : SettingId) (v : Nat) :
    (t.put i v).get k = if k = i then v else t.get k := by
  cases i <;> cases k <;> rfl

/-- Only the measurement settings have a slot to replace (R57). -/
theorem Parked.get_put (p : Parked) (i k : SettingId) (v : Option Nat) :
    (p.put i v).get k = if k = i ∧ i.isMeasurement = true then v else p.get k := by
  cases i <;> cases k <;> rfl

/-- A written value is brought into the setting's range (R208). -/
theorem SettingId.admits_ranged (i : SettingId) (v : Nat) : i.Admits (i.ranged v) := by
  have ends : i.range.1 ≤ i.range.2 := by cases i <;> decide
  exact ⟨le_max_left _ _, max_le ends (min_le_left _ _)⟩

/-- The circle of the A counter has at least 256 counts. -/
theorem State.SettingsRanged.circle {s : State} (h : s.SettingsRanged) : 256 ≤ s.settings.countsPerRev :=
  (h.active .countsPerRev).1

theorem State.SettingsRanged.circle_pos {s : State} (h : s.SettingsRanged) : 0 < s.settings.countsPerRev :=
  lt_of_lt_of_le (by decide) h.circle

/-- A value in its range put among active values that are in theirs. -/
theorem State.SettingsRanged.admits_put {s : State} (h : s.SettingsRanged) {i : SettingId} {v : Nat} (hv : i.Admits v)
    (k : SettingId) : k.Admits ((s.settings.put i v).get k) := by
  rw [Settings.get_put]
  split
  · next same => exact same ▸ hv
  · exact h.active k

/-- A slot filled with a value in its range, or emptied (R57). -/
theorem State.SettingsRanged.park {s : State} (h : s.SettingsRanged) {i : SettingId} {o : Option Nat}
    (ho : ∀ v, o = some v → i.Admits v) : State.SettingsRanged { s with parked := s.parked.put i o } where
  active := h.active
  parked k v held := by
    rw [Parked.get_put] at held
    split at held
    · next same => exact same.1 ▸ ho v held
    · exact h.parked k v held
  angle := h.angle

/-- The capture unit's part in a setting's change reaches neither the settings nor a length counter, and brings the
angle onto a new circle (R56). -/
theorem State.settingEffect_same (s : State) (i : SettingId) :
    (s.settingEffect i).settings = s.settings ∧ (s.settingEffect i).parked = s.parked ∧
      (s.settingEffect i).capture.z = s.capture.z ∧ (s.settingEffect i).capture.x = s.capture.x ∧
      (s.settingEffect i).capture.a =
        if i = .countsPerRev then s.capture.a % s.settings.countsPerRev else s.capture.a := by
  cases i <;> exact ⟨rfl, rfl, rfl, rfl, rfl⟩

/-- A measurement setting becomes active with a value in its range (R56). -/
theorem State.ranged_activate {s : State} (h : s.SettingsRanged) {i : SettingId} {v : Nat} (hv : i.Admits v) :
    (s.activate i v).SettingsRanged := by
  unfold State.activate
  split
  · exact h
  · obtain ⟨settings, parked, -, -, angle⟩ := State.settingEffect_same
      { s with settings := s.settings.put i v, capture := { s.capture with checkPending := true } } i
    refine ⟨?_, ?_, ?_⟩
    · rw [settings]
      exact h.admits_put hv
    · rw [parked]
      exact h.parked
    · have circle := h.admits_put hv .countsPerRev
      rw [angle, settings]
      split
      · exact Nat.mod_lt _ (lt_of_lt_of_le (by decide) circle.1)
      · next other =>
        have kept : (s.settings.put i v).countsPerRev = s.settings.countsPerRev :=
          (s.settings.get_put i .countsPerRev v).trans (if_neg (Ne.symm other))
        exact kept ▸ h.angle

/-- A value that becomes active reaches no slot and no length counter (R56). -/
theorem State.activate_same (s : State) (i : SettingId) (v : Nat) :
    (s.activate i v).parked = s.parked ∧ (s.activate i v).capture.z = s.capture.z ∧
      (s.activate i v).capture.x = s.capture.x := by
  unfold State.activate
  split
  · exact ⟨rfl, rfl, rfl⟩
  · obtain ⟨-, parked, z, x, -⟩ := State.settingEffect_same
      { s with settings := s.settings.put i v, capture := { s.capture with checkPending := true } } i
    exact ⟨parked, z, x⟩

theorem State.keepsAxes_activate (s : State) {i : SettingId} {v : Nat} (hv : i.Admits v) :
    s.KeepsAxes (s.activate i v) :=
  have ⟨_, z, x⟩ := s.activate_same i v
  { z := z, x := x, ranged := fun h => State.ranged_activate h hv }

/-- A parked value becomes active and its slot is emptied (R58). -/
theorem State.keepsAxes_applySlot (s : State) (i : SettingId) : s.KeepsAxes (s.applySlot i) := by
  unfold State.applySlot
  split
  · exact .refl s
  · next v held =>
    obtain ⟨parked, z, x⟩ := s.activate_same i v
    refine { z := z, x := x, ranged := fun h => ?_ }
    rw [← parked]
    exact (State.ranged_activate h (h.parked i v held)).park nofun

theorem State.keepsAxes_applyParked (s : State) : s.KeepsAxes s.applyParked :=
  State.KeepsAxes.foldl State.keepsAxes_applySlot _ s

/-- A setting of 9 to 16 written at once: the circle stays as it was (R208). -/
theorem State.keepsAxes_writeAtOnce (s : State) {i : SettingId} {v : Nat} (other : i.isMeasurement = false)
    (hv : i.Admits v) : s.KeepsAxes (s.writeAtOnce i v) := by
  have written : s.KeepsAxes { s with settings := s.settings.put i v } := by
    refine { ranged := fun h => ⟨h.admits_put hv, h.parked, ?_⟩ }
    have circle : (s.settings.put i v).countsPerRev = s.settings.countsPerRev :=
      (s.settings.get_put i .countsPerRev v).trans (if_neg fun e => by rw [← e] at other; cases other)
    exact circle ▸ h.angle
  unfold State.writeAtOnce settingConsequence
  split
  · exact written.trans ((State.keepsAxes_autoCalCheck _).trans (State.keepsAxes_settle _ _))
  · split
    · exact written.trans (State.keepsAxes_settle _ _)
    · exact written

theorem keepsAxes_opSetSetting (n : Byte) (v : BitVec 32) (s : State) : s.KeepsAxes (opSetSetting n v s).1 := by
  unfold opSetSetting
  split
  · exact .refl s
  · next i _ =>
    have ranged := i.admits_ranged v.toNat
    dsimp only
    split
    · split
      · exact s.keepsAxes_activate ranged
      · exact { ranged := fun h => h.park fun w held => Option.some.inj held ▸ ranged }
    · next other => exact s.keepsAxes_writeAtOnce (Bool.eq_false_iff.2 other) ranged

/-! ### The removal and the end of a job (R69, R73, R76, R80 to R84) -/

theorem State.keepsAxes_engineToIdle (s : State) : s.KeepsAxes s.engineToIdle :=
  State.KeepsAxes.trans (t := { s with engine := Engine.idle }) {} (State.keepsAxes_applyParked _)

theorem State.keepsAxes_dropJob (s : State) (j : Job) : s.KeepsAxes (s.dropJob j) := by
  have removed : s.KeepsAxes (s.withoutJob j.number) := {}
  unfold State.dropJob
  refine State.KeepsAxes.trans ?_ (State.keepsAxes_autoCalCheck _)
  split
  · exact removed.trans (State.keepsAxes_engineToIdle _)
  · exact removed

theorem State.keepsAxes_withdrawJob (b s : State) (j : Job) : s.KeepsAxes (b.withdrawJob s j) := by
  have withdrawn : s.KeepsAxes (s.withdrawFetch j) := by
    unfold State.withdrawFetch
    split <;> exact {}
  exact withdrawn.trans ((State.keepsAxes_dropJob _ j).trans (State.keepsAxes_settle _ _))

theorem State.keepsAxes_failFetch (s : State) (j : Job) : s.KeepsAxes (s.failFetch j) :=
  State.KeepsAxes.trans (t := s.appendLog _) {} (State.keepsAxes_dropJob _ j)

theorem State.keepsAxes_concludeJob (s : State) (j : Job) (st : Status) (l r u : Option Nat) :
    s.KeepsAxes (s.concludeJob j st l r u) :=
  State.KeepsAxes.trans (t := s.appendLog _) {} ((State.keepsAxes_dropJob _ j).trans (State.keepsAxes_settle _ _))

theorem State.keepsAxes_stopJob (s : State) (j : Job) (st : Status) : s.KeepsAxes (s.stopJob j st) := by
  unfold State.stopJob
  refine State.KeepsAxes.trans ?_ (State.keepsAxes_concludeJob _ j st _ _ _)
  split <;> exact {}

theorem State.keepsAxes_abortCurrent (s : State) : s.KeepsAxes s.abortCurrent := by
  unfold State.abortCurrent
  split
  · exact .refl s
  · exact s.keepsAxes_stopJob _ _

theorem State.keepsAxes_computeJob (s : State) (j : Job) (n : RecNo) : s.KeepsAxes (s.computeJob j n) := by
  have checked : s.KeepsAxes (if s.stale then s.autoCalCheck else s) := by
    split
    · exact s.keepsAxes_autoCalCheck
    · exact .refl s
  exact checked.trans (State.KeepsAxes.trans {} (State.keepsAxes_concludeJob _ j _ _ _ _))

theorem State.keepsAxes_calibrateJob (s : State) (j : Job) : s.KeepsAxes (s.calibrateJob j) := by
  unfold State.calibrateJob
  dsimp only
  split <;> exact State.KeepsAxes.trans {} (State.keepsAxes_concludeJob _ j _ _ _ _)

theorem State.keepsAxes_finishJob (s : State) (j : Job) : s.KeepsAxes (s.finishJob j) := by
  unfold State.finishJob
  split
  · exact s.keepsAxes_calibrateJob j
  · exact s.keepsAxes_computeJob j _

theorem State.keepsAxes_completeStation (s : State) (j : Job) (reduced : Bool) :
    s.KeepsAxes (s.completeStation j reduced) := by
  unfold State.completeStation
  dsimp only
  split
  · exact State.KeepsAxes.trans {} (State.keepsAxes_finishJob _ j)
  · exact {}

/-- An offered job taken back (R76). -/
theorem State.keepsAxes_takeBack (s : State) (n : RecNo) : s.KeepsAxes (s.takeBack n) := by
  unfold State.takeBack
  split
  · exact .refl s
  · split
    · exact State.KeepsAxes.trans {} (State.keepsAxes_engineToIdle _)
    · exact .refl s

/-! ### Tool records and their edits (R13 to R37) -/

theorem keepsAxes_opRegister (r : BitVec 16) (tag : Tag) (cls : BitVec 16) (nl nr : BitVec 32)
    (lt rt ru we : BitVec 16) (f st sa m : Byte) (li : BitVec 24) (s : State) :
    s.KeepsAxes (opRegister r tag cls nl nr lt rt ru we f st sa m li s).1 := by
  unfold opRegister
  repeat' split
  all_goals exact {}

theorem keepsAxes_opRetire (r : BitVec 16) (s : State) : s.KeepsAxes (opRetire r s).1 := by
  unfold opRetire
  split
  · exact .refl s
  · dsimp only
    split
    · exact .refl s
    · split
      · exact .refl s
      · split
        · exact {}
        · exact State.KeepsAxes.trans (t := s.changeTool _ _) {} (State.keepsAxes_withdrawJob _ _ _)

theorem keepsAxes_opRelease (r : BitVec 16) (s : State) : s.KeepsAxes (opRelease r s).1 := by
  unfold opRelease
  repeat' split
  all_goals exact {}

theorem keepsAxes_opResetLife (r : BitVec 16) (s : State) : s.KeepsAxes (opResetLife r s).1 := by
  unfold opResetLife
  repeat' split
  all_goals exact {}

theorem keepsAxes_opReconcile (r : BitVec 16) (t p l m q : Byte) (s : State) :
    s.KeepsAxes (opReconcile r t p l m q s).1 := by
  unfold opReconcile
  repeat' split
  all_goals exact {}

theorem State.keepsAxes_ticketToHead (s : State) (n : Nat) (f : Ticket → Ticket) :
    s.KeepsAxes (s.ticketToHead n f) := by
  unfold State.ticketToHead
  split <;> exact {}

theorem State.keepsAxes_recallDue (s : State) (n : RecNo) : s.KeepsAxes (s.recallDue n) := by
  have marked : s.KeepsAxes (s.quarantineRecalled n) := {}
  unfold State.recallDue
  split
  · exact marked
  · split
    · exact marked.trans (State.keepsAxes_withdrawJob _ _ _)
    · split
      · exact marked.trans (State.keepsAxes_withdrawJob _ _ _)
      · exact {}

theorem State.keepsAxes_recallAllocated (s : State) (n : RecNo) : s.KeepsAxes (s.recallAllocated n) := by
  unfold State.recallAllocated
  split
  · exact {}
  · next o _ =>
    split
    · have left : s.KeepsAxes ((s.quarantineRecalled n).withoutOrder o.number) := {}
      exact left.trans ((State.keepsAxes_ticketToHead _ _ _).trans (State.keepsAxes_settle _ _))
    · exact {}
    · exact {}

theorem State.keepsAxes_recallRecord (s : State) (n : RecNo) : s.KeepsAxes (s.recallRecord n) := by
  unfold State.recallRecord
  split
  case h_1 | h_2 => exact s.keepsAxes_recallDue n
  case h_3 => exact s.keepsAxes_recallAllocated n
  all_goals exact {}

theorem keepsAxes_opAddRecall (tag : Tag) (s : State) : s.KeepsAxes (opAddRecall tag s).1 := by
  unfold opAddRecall
  split
  · exact .refl s
  · split
    · exact .refl s
    · split
      · exact .refl s
      · dsimp only
        split
        · exact {}
        · exact State.KeepsAxes.trans {} (State.keepsAxes_recallRecord _ _)

theorem keepsAxes_opRemoveRecall (tag : Tag) (s : State) : s.KeepsAxes (opRemoveRecall tag s).1 := by
  unfold opRemoveRecall
  dsimp only
  repeat' split
  all_goals exact {}

theorem keepsAxes_opOpenEdit (l : LinkId) (r : BitVec 16) (f g m : Byte) (v : BitVec 16) (s : State) :
    s.KeepsAxes (opOpenEdit l r f g m v s).1 := by
  unfold opOpenEdit
  repeat' split
  all_goals exact {}

theorem keepsAxes_opEditData (l : LinkId) (bytes : List Byte) (s : State) : s.KeepsAxes (opEditData l bytes s).1 := by
  unfold opEditData
  repeat' split
  all_goals exact {}

theorem keepsAxes_commitEdit (l : LinkId) (e : Edit) (s : State) : s.KeepsAxes (commitEdit l e s).1 := by
  have committed : s.KeepsAxes ((s.changeTool e.record fun _ =>
      editConsequences (s.tool e.record) (applyEntries (s.tool e.record) e.entries).record).changeLink l
        fun k => { k with edit := none }) := {}
  have passed := committed.trans (State.keepsAxes_settle _ true)
  unfold commitEdit
  dsimp only
  split
  · exact passed.trans {}
  · exact committed

theorem keepsAxes_opCloseEdit (l : LinkId) (s : State) : s.KeepsAxes (opCloseEdit l s).1 := by
  unfold opCloseEdit
  split
  · exact .refl s
  · split
    · exact .refl s
    · split
      · exact .refl s
      · exact keepsAxes_commitEdit _ _ _

theorem keepsAxes_opAbortEdit (l : LinkId) (s : State) : s.KeepsAxes (opAbortEdit l s).1 := by
  unfold opAbortEdit
  split <;> exact {}

/-! ### Measurement jobs, the reference and the hall clock (R65 to R87, R110 to R112, R198) -/

theorem keepsAxes_measureAccepted (q : State × Nat) (b : Bool) : q.1.KeepsAxes (measureAccepted q b).1 :=
  q.1.keepsAxes_settle false

theorem keepsAxes_measureGauge (l : LinkId) (u o : Bool) (s : State) : s.KeepsAxes (measureGauge l u o s).1 := by
  unfold measureGauge
  split
  · exact .refl s
  · split
    · exact .refl s
    · split
      · exact .refl s
      · split
        · exact .refl s
        · exact State.KeepsAxes.trans {} (keepsAxes_measureAccepted _ _)

theorem keepsAxes_measureTool (l : LinkId) (k : JobKind) (r : BitVec 16) (u o : Bool) (f st sa : Byte) (s : State) :
    s.KeepsAxes (measureTool l k r u o f st sa s).1 := by
  unfold measureTool
  split
  · exact .refl s
  · dsimp only
    split
    · exact .refl s
    · split
      · exact .refl s
      · split
        · exact .refl s
        · split
          · exact .refl s
          · split
            · exact .refl s
            · refine State.KeepsAxes.trans ?_ (keepsAxes_measureAccepted _ _)
              split <;> exact {}

theorem keepsAxes_opMeasure (l : LinkId) (k : Byte) (r : BitVec 16) (u m f st sa : Byte) (s : State) :
    s.KeepsAxes (opMeasure l k r u m f st sa s).1 := by
  unfold opMeasure
  split
  · exact .refl s
  · split
    · exact .refl s
    · split
      · exact keepsAxes_measureGauge _ _ _ _
      · exact keepsAxes_measureTool _ _ _ _ _ _ _ _ _
      · exact keepsAxes_measureTool _ _ _ _ _ _ _ _ _

theorem keepsAxes_opCancelJob (j : BitVec 16) (s : State) : s.KeepsAxes (opCancelJob j s).1 := by
  unfold opCancelJob
  split
  · exact .refl s
  · split
    · exact State.keepsAxes_withdrawJob _ _ _
    · exact .refl s

theorem State.keepsAxes_mounted (s : State) (j : Job) : s.KeepsAxes (s.mounted j) := by
  unfold State.mounted
  dsimp only
  split <;> exact {}

theorem keepsAxes_opMount (job : BitVec 16) (tag : Tag) (s : State) : s.KeepsAxes (opMount job tag s).1 := by
  unfold opMount
  split
  · exact .refl s
  · split
    · exact .refl s
    · split
      · exact .refl s
      · split
        · exact .refl s
        · exact s.keepsAxes_mounted _

theorem keepsAxes_opArmStation (job : BitVec 16) (n : Byte) (s : State) : s.KeepsAxes (opArmStation job n s).1 := by
  unfold opArmStation
  repeat' split
  all_goals exact {}

theorem keepsAxes_opAbortJob (job : BitVec 16) (s : State) : s.KeepsAxes (opAbortJob job s).1 := by
  unfold opAbortJob
  split
  · exact .refl s
  · exact s.keepsAxes_stopJob _ _

theorem keepsAxes_opGetResult (s : State) : s.KeepsAxes (opGetResult s).1 := by
  unfold opGetResult
  split <;> exact {}

/-- A reference or a clock written, the auto-calibrate check and the engine's choice (R110, R112, R197, R198). -/
theorem State.KeepsAxes.check {s t : State} (h : s.KeepsAxes t) : s.KeepsAxes (t.autoCalCheck.settle false) :=
  h.trans (t.keepsAxes_autoCalCheck.trans (State.keepsAxes_settle _ _))

theorem keepsAxes_opSetGauge (t : Tag) (l r : BitVec 32) (n m : Byte) (s : State) :
    s.KeepsAxes (opSetGauge t l r n m s).1 := by
  unfold opSetGauge
  split
  · exact .refl s
  · exact State.KeepsAxes.check {}

/-! ### Tickets, orders, deposits and handoffs (R125 to R180) -/

theorem keepsAxes_opRequestTool (l : LinkId) (m p : Byte) (c : BitVec 16) (life : BitVec 24) (u : Byte) (s : State) :
    s.KeepsAxes (opRequestTool l m p c life u s).1 := by
  unfold opRequestTool
  split
  · exact .refl s
  · split
    · exact .refl s
    · split
      · exact .refl s
      · exact State.KeepsAxes.trans {} (State.keepsAxes_settle _ true)

theorem keepsAxes_opWithdrawTicket (l : LinkId) (n : BitVec 16) (s : State) :
    s.KeepsAxes (opWithdrawTicket l n s).1 := by
  unfold opWithdrawTicket
  repeat' split
  all_goals exact {}

theorem keepsAxes_opFetchOrder (s : State) : s.KeepsAxes (opFetchOrder s).1 := by
  unfold opFetchOrder
  split <;> exact {}

theorem State.keepsAxes_deliver (s : State) (o : Order) : s.KeepsAxes (s.deliver o) := by
  unfold State.deliver
  split
  · dsimp only
    split <;> exact {}
  · exact {}

theorem State.keepsAxes_retryTicket (s : State) (n : Nat) : s.KeepsAxes (s.retryTicket n) := by
  unfold State.retryTicket
  split
  · exact .refl s
  · split
    · exact {}
    · exact s.keepsAxes_ticketToHead _ _

theorem State.keepsAxes_fail (s : State) (o : Order) (fault : LastFault) : s.KeepsAxes (s.fail o fault) := by
  have lost : s.KeepsAxes ((s.changeTool o.record fun r =>
      { r with state := .check, loc := .unknown, lastFault := fault }).withoutOrder o.number) := {}
  unfold State.fail
  dsimp only
  split
  · exact lost.trans (State.keepsAxes_retryTicket _ _)
  · split
    · exact lost
    · exact lost.trans (State.keepsAxes_failFetch _ _)

theorem State.keepsAxes_retire (s : State) (o : Order) (w : CribOutcome) : s.KeepsAxes (s.retire o w) := by
  cases w with
  | delivered => exact (s.keepsAxes_deliver o).trans (State.keepsAxes_settle _ _)
  | failed fault => exact (s.keepsAxes_fail o fault).trans (State.keepsAxes_settle _ _)

theorem keepsAxes_opOrderDone (n : BitVec 16) (w : Byte) (s : State) : s.KeepsAxes (opOrderDone n w s).1 := by
  unfold opOrderDone
  split
  · exact .refl s
  · split
    · exact .refl s
    · split
      · exact .refl s
      · exact s.keepsAxes_retire _ _

theorem State.keepsAxes_depositAt (s : State) (n : RecNo) (p : Fin 240) (st : RecState) :
    s.KeepsAxes (s.depositAt n p st).1 := by
  have returned : ∀ (t : State) (b : Bool), t.KeepsAxes (t.enqueueReturn n b).1 := by
    intro t b
    unfold State.enqueueReturn
    split <;> exact {}
  have placed : s.KeepsAxes (s.changeTool n fun r => { r with state := depositState r st, loc := .crib p }) := {}
  exact placed.trans ((returned _ _).trans ((State.keepsAxes_takeBack _ n).trans
    ((State.keepsAxes_settle _ _).trans {})))

theorem keepsAxes_opDeposit (tag : Tag) (p : Byte) (s : State) : s.KeepsAxes (opDeposit tag p s).1 := by
  unfold opDeposit
  split
  · exact .refl s
  · split
    · exact .refl s
    · split
      · exact .refl s
      · split
        · exact .refl s
        · split
          · exact .refl s
          · exact s.keepsAxes_depositAt _ _ _

theorem keepsAxes_opFetchHandoff (l : LinkId) (s : State) : s.KeepsAxes (opFetchHandoff l s).1 := by
  unfold opFetchHandoff
  split <;> exact {}

theorem State.keepsAxes_retireHandoff (s : State) (h : Handoff) (f : ToolRecord → ToolRecord) :
    s.KeepsAxes (s.retireHandoff h f) :=
  State.KeepsAxes.trans {} (State.keepsAxes_settle _ true)

theorem keepsAxes_opConfirmLoad (l : LinkId) (n : BitVec 16) (t : Tag) (s : State) :
    s.KeepsAxes (opConfirmLoad l n t s).1 := by
  unfold opConfirmLoad
  split
  · exact .refl s
  · split
    · exact .refl s
    · split
      · exact .refl s
      · split
        · exact .refl s
        · exact s.keepsAxes_retireHandoff _ _

theorem keepsAxes_opRejectHandoff (l : LinkId) (n : BitVec 16) (s : State) :
    s.KeepsAxes (opRejectHandoff l n s).1 := by
  unfold opRejectHandoff
  split
  · exact .refl s
  · split
    · exact .refl s
    · exact s.keepsAxes_retireHandoff _ _

theorem keepsAxes_opReportUsage (l : LinkId) (r : BitVec 16) (a : BitVec 24) (s : State) :
    s.KeepsAxes (opReportUsage l r a s).1 := by
  unfold opReportUsage
  split <;> exact {}

theorem keepsAxes_opReportUnload (l : LinkId) (r : BitVec 16) (s : State) : s.KeepsAxes (opReportUnload l r s).1 := by
  unfold opReportUnload
  split <;> exact {}

theorem keepsAxes_opSetMask (l : LinkId) (n : Byte) (es : List Byte) (s : State) :
    s.KeepsAxes (opSetMask l n es s).1 := by
  unfold opSetMask
  split <;> exact {}

/-- The owning rule of every request keeps the axes (R207). -/
theorem State.keepsAxes_ownRule (i : Instr) (s : State) : s.KeepsAxes (ownRule i s).1 := by
  cases i
  case register => exact keepsAxes_opRegister ..
  case retire => exact keepsAxes_opRetire ..
  case release => exact keepsAxes_opRelease ..
  case resetLife => exact keepsAxes_opResetLife ..
  case reconcile => exact keepsAxes_opReconcile ..
  case addRecall => exact keepsAxes_opAddRecall ..
  case removeRecall => exact keepsAxes_opRemoveRecall ..
  case listRecall => exact .of_eq (opListRecall_fst ..)
  case readRecord => exact .of_eq (opReadRecord_fst ..)
  case openEdit => exact keepsAxes_opOpenEdit ..
  case editData => exact keepsAxes_opEditData ..
  case closeEdit => exact keepsAxes_opCloseEdit ..
  case abortEdit => exact keepsAxes_opAbortEdit ..
  case measure => exact keepsAxes_opMeasure ..
  case cancelJob => exact keepsAxes_opCancelJob ..
  case getJob => exact .of_eq (opGetJob_fst ..)
  case mount => exact keepsAxes_opMount ..
  case armStation => exact keepsAxes_opArmStation ..
  case abortJob => exact keepsAxes_opAbortJob ..
  case getResult => exact keepsAxes_opGetResult ..
  case readResults => exact .of_eq (opReadResults_fst ..)
  case setGauge => exact keepsAxes_opSetGauge ..
  case clearReference => exact State.KeepsAxes.check {}
  case requestTool => exact keepsAxes_opRequestTool ..
  case withdrawTicket => exact keepsAxes_opWithdrawTicket ..
  case issueStatus => exact .of_eq (opIssueStatus_fst ..)
  case fetchOrder => exact keepsAxes_opFetchOrder ..
  case orderDone => exact keepsAxes_opOrderDone ..
  case deposit => exact keepsAxes_opDeposit ..
  case fetchHandoff => exact keepsAxes_opFetchHandoff ..
  case confirmLoad => exact keepsAxes_opConfirmLoad ..
  case rejectHandoff => exact keepsAxes_opRejectHandoff ..
  case reportUsage => exact keepsAxes_opReportUsage ..
  case reportUnload => exact keepsAxes_opReportUnload ..
  case readHandoff => exact .of_eq (opReadHandoff_fst ..)
  case setMask => exact keepsAxes_opSetMask ..
  case setTime => exact State.KeepsAxes.check {}
  case setSetting => exact keepsAxes_opSetSetting ..
  case getSetting => exact .of_eq (opGetSetting_fst ..)
  -- What is left changes nothing, or the glitch indicators or the retention-lost latch only.
  all_goals exact {}

end Sys2Proof.Machine

/-! PROOF. Every frame, event and step keeps the axes but an encoder's step and a start, and those keep the settings,
the slots and the angle in their ranges (R41, R43, R55, R57, R208, R213). -/

namespace Sys2Proof.Machine

-- One proof after another: side by side their threads need more memory than the checks allow.
set_option Elab.async false

/-! ### Requests and frames (R203 to R207, R211) -/

theorem keepsAxes_judgeParams (l : LinkId) (f : Frame) (s : State) : s.KeepsAxes (judgeParams l f s).1 := by
  unfold judgeParams
  split
  · exact .refl s
  · exact s.keepsAxes_ownRule _

theorem State.keepsAxes_byRole {op : State → State × Reply} (h : ∀ s, State.KeepsAxes s (op s).1) (l : LinkId)
    (code : Nat) (s : State) : s.KeepsAxes (s.byRole l code op).1 := by
  unfold State.byRole
  split
  · exact h s
  · exact .refl s

theorem keepsAxes_judgeFrame (l : LinkId) (f : Frame) (s : State) : s.KeepsAxes (judgeFrame l f s).1 := by
  unfold judgeFrame
  split
  · exact .refl s
  · split
    · exact State.keepsAxes_byRole (keepsAxes_judgeParams l f) _ _ s
    · exact .refl s

theorem State.keepsAxes_handIn {judge : State → State × Reply} (h : ∀ s, State.KeepsAxes s (judge s).1) (l : LinkId)
    (f : Frame) (s : State) : s.KeepsAxes (s.handIn l f judge) := by
  unfold State.handIn
  split
  · exact .refl s
  · split
    · exact {}
    · exact (h s).trans {}

theorem State.keepsAxes_received (s : State) (l : LinkId) : s.KeepsAxes (s.received l) := {}

theorem State.keepsAxes_submit (i : Instr) (c : Caller) (s : State) :
    s.KeepsAxes (State.submit i c (ownRule i) s) := by
  unfold State.submit
  split
  · exact .refl s
  · exact (s.keepsAxes_received _).trans
      (State.keepsAxes_handIn (State.keepsAxes_byRole (State.keepsAxes_ownRule i) _ _) _ _ _)

theorem State.keepsAxes_undefinedFunction (c : Caller) (function : Byte) (params : List Byte) (s : State) :
    s.KeepsAxes (s.undefinedFunction c function params) := by
  unfold State.undefinedFunction
  split
  · exact .refl s
  · exact (s.keepsAxes_received _).trans (State.keepsAxes_handIn (keepsAxes_judgeFrame _ _) _ _ _)

theorem State.keepsAxes_completeFrame (l : LinkId) (body : List Byte) (check : BitVec 16) (s : State) :
    s.KeepsAxes (s.completeFrame l body check) := by
  unfold State.completeFrame
  dsimp only
  split
  · split
    · exact (s.keepsAxes_received _).trans (State.keepsAxes_handIn (keepsAxes_judgeFrame _ _) _ _ _)
    · exact s.keepsAxes_received _
  · exact s.keepsAxes_received _

theorem State.keepsAxes_frameReceived (l : LinkId) (body : List Byte) (check : BitVec 16) (s : State) :
    s.KeepsAxes (s.frameReceived l body check) := by
  unfold State.frameReceived
  split
  · exact .refl s
  · exact s.keepsAxes_completeFrame _ _ _

theorem State.keepsAxes_receiveByte (l : LinkId) (b : Byte) (s : State) : s.KeepsAxes (s.receiveByte l b) := by
  unfold State.receiveByte
  split
  · exact {}
  · exact {}
  · dsimp only
    split
    · exact s.keepsAxes_completeFrame _ _ _
    · exact {}

theorem State.keepsAxes_characterReceived (l : LinkId) (data : Byte) (stop : Bool) (s : State) :
    s.KeepsAxes (s.characterReceived l data stop) := by
  unfold State.characterReceived
  split
  · exact .refl s
  · split
    · exact s.keepsAxes_receiveByte _ _
    · exact {}

theorem State.keepsAxes_answerSent (l : LinkId) (s : State) : s.KeepsAxes (s.answerSent l) := by
  unfold State.answerSent
  split
  · exact .refl s
  · split
    · exact {}
    · next f _ =>
      have free : s.KeepsAxes (s.changeLink l fun k => { k with tx := none, waiting := none }) := {}
      exact free.trans ((keepsAxes_judgeFrame l f _).trans {})

theorem State.keepsAxes_linkBreak (l : LinkId) (s : State) : s.KeepsAxes (s.linkBreak l) := by
  have broken : s.KeepsAxes (s.changeLink l Link.broken) := {}
  unfold State.linkBreak
  split
  · exact .refl s
  · dsimp only
    split
    · exact broken.trans ((State.keepsAxes_abortCurrent _).trans {})
    · exact broken

/-! ### The index, the qualifier and the station (R44 to R54, R81) -/

/-- An index pulse puts A at 0, which is on every circle. -/
theorem State.keepsAxes_indexPulse (s : State) : s.KeepsAxes s.indexPulse := by
  unfold State.indexPulse
  dsimp only
  split <;> exact { ranged := fun h => ⟨h.active, h.parked, h.circle_pos⟩ }

theorem State.keepsAxes_judgeSample (s : State) (j : Job) (x : Sample) : s.KeepsAxes (s.judgeSample j x) := by
  unfold State.judgeSample
  dsimp only
  split
  · split
    · exact State.KeepsAxes.trans {} (State.keepsAxes_completeStation _ j false)
    · exact {}
  · exact {}

theorem State.keepsAxes_qualify (s : State) (h : Latch) : s.KeepsAxes (s.qualify h) := by
  have offered : ∀ t : State, t.KeepsAxes (t.offer h) := by
    intro t
    unfold State.offer
    split
    · exact .refl t
    · split
      · exact t.keepsAxes_judgeSample _ _
      · exact .refl t
  exact State.KeepsAxes.trans {} (offered _)

theorem State.keepsAxes_edgeActive (s : State) : s.KeepsAxes s.edgeActive := by
  unfold State.edgeActive
  split
  · exact .refl s
  · dsimp only
    split
    · split
      · exact State.KeepsAxes.trans {} (State.keepsAxes_qualify _ _)
      · exact {}
    all_goals exact {}

theorem State.keepsAxes_edgeInactive (s : State) : s.KeepsAxes s.edgeInactive := by
  unfold State.edgeInactive
  dsimp only
  repeat' split
  all_goals exact {}

theorem State.keepsAxes_dwellEnd (s : State) : s.KeepsAxes s.dwellEnd := by
  unfold State.dwellEnd
  split
  · exact s.keepsAxes_qualify _
  all_goals exact .refl s

theorem State.keepsAxes_deadTimeEnd (s : State) : s.KeepsAxes s.deadTimeEnd := by
  unfold State.deadTimeEnd
  split <;> exact {}

theorem State.keepsAxes_guardOpens (s : State) : s.KeepsAxes s.guardOpens := by
  unfold State.guardOpens
  split <;> exact {}

theorem State.keepsAxes_guardCloses (s : State) : s.KeepsAxes s.guardCloses := by
  unfold State.guardCloses
  split <;> exact {}

theorem State.keepsAxes_stationExpires (s : State) : s.KeepsAxes s.stationExpires := by
  unfold State.stationExpires
  split
  · exact .refl s
  · split
    · exact .refl s
    · split
      · exact State.KeepsAxes.trans {} (State.keepsAxes_stopJob _ _ .noEdge)
      · exact s.keepsAxes_completeStation _ _

/-! ### Lines, timers and the idle second (R118, R150, R154, R176, R197; log 5) -/

theorem State.keepsAxes_doorOpens (s : State) : s.KeepsAxes s.doorOpens := by
  unfold State.doorOpens
  split <;> exact {}

theorem State.keepsAxes_doorCloses (s : State) : s.KeepsAxes s.doorCloses := by
  unfold State.doorCloses
  split
  · exact State.KeepsAxes.trans {} (State.keepsAxes_settle _ true)
  · exact .refl s

theorem State.keepsAxes_dispenseExpires (s : State) (n : Nat) : s.KeepsAxes (s.dispenseExpires n) := by
  unfold State.dispenseExpires
  split
  · exact .refl s
  · split
    · exact s.keepsAxes_retire _ _
    · exact .refl s

theorem State.keepsAxes_loadExpires (s : State) (n : Nat) : s.KeepsAxes (s.loadExpires n) := by
  unfold State.loadExpires
  split
  · exact .refl s
  · split
    · exact s.keepsAxes_retireHandoff _ _
    · exact .refl s

theorem State.keepsAxes_advanceHall (s : State) : s.KeepsAxes s.advanceHall := by
  unfold State.advanceHall
  split
  · dsimp only
    split
    · exact State.KeepsAxes.check {}
    · exact {}
  · exact .refl s

theorem State.keepsAxes_agePending (s : State) : s.KeepsAxes s.agePending := by
  unfold State.agePending
  split <;> exact {}

theorem State.keepsAxes_idleSecond (s : State) : s.KeepsAxes s.idleSecond := by
  unfold State.idleSecond
  split <;> exact {}

theorem State.keepsAxes_backupSupplyLoss (s : State) : s.KeepsAxes s.backupSupplyLoss := by
  unfold State.backupSupplyLoss
  split <;> exact {}

/-! ### Encoder steps and the start (R41 to R43, R213) -/

theorem angleUp_lt {cpr a : Nat} (h : 0 < cpr) : angleUp cpr a < cpr := by
  unfold angleUp
  split <;> omega

theorem angleDown_lt {cpr a : Nat} (h : a < cpr) : angleDown cpr a < cpr := by
  unfold angleDown
  split <;> omega

/-- A step of an encoder keeps the angle on its circle (R43). -/
theorem State.ranged_encoderStep {s : State} (h : s.SettingsRanged) (e : Encoder) (p : Fin 4) :
    (s.encoderStep e p).SettingsRanged := by
  have up : (s.capture.countUp s.settings.countsPerRev e).a < s.settings.countsPerRev := by
    cases e
    · exact h.angle
    · exact h.angle
    · exact angleUp_lt (Nat.zero_lt_of_lt h.angle)
  have down : (s.capture.countDown s.settings.countsPerRev e).a < s.settings.countsPerRev := by
    cases e
    · exact h.angle
    · exact h.angle
    · exact angleDown_lt h.angle
  have marked : (s.capture.markGlitch e).a < s.settings.countsPerRev := by
    cases e <;> exact h.angle
  unfold State.encoderStep
  dsimp only
  split
  · exact h
  · exact ⟨h.active, h.parked, up⟩
  · exact ⟨h.active, h.parked, down⟩
  · unfold State.illegalStep
    dsimp only
    split <;> exact ⟨h.active, h.parked, marked⟩

/-- A start puts A at 0, and the settings it keeps, or their defaults, are in their ranges (R213). -/
theorem State.ranged_start {s : State} (h : s.SettingsRanged) (p : Pins) : (s.start p).SettingsRanged := by
  have defaults : ∀ i : SettingId, i.Admits (Settings.defaults.get i) := by
    intro i
    cases i <;> exact ⟨by decide, by decide⟩
  have empty : ∀ (i : SettingId) (v : Nat), Parked.empty.get i = some v → i.Admits v := by
    intro i v held
    cases i <;> cases held
  have started :
      (State.startValues p (if s.lossMark then s.coldMemory else s.warmMemory (startRole p))).SettingsRanged := by
    split
    · exact ⟨defaults, empty, show 0 < 4096 by decide⟩
    · exact ⟨h.active, h.parked, h.circle_pos⟩
  have requalified : ∀ t : State, t.KeepsAxes t.requalify := fun t => {}
  have chosen : ∀ t : State, t.KeepsAxes t.engineChoose := fun t => t.settles_engineChoose.keepsAxes
  have judged : ∀ t : State, t.KeepsAxes t.judgeAttention := fun t => {}
  exact ((requalified _).trans ((State.keepsAxes_applyParked _).trans ((State.keepsAxes_autoCalCheck _).trans
    ((chosen _).trans (judged _))))).ranged started

/-! ### Steps -/

theorem State.keepsAxes_event {f : State → State} (h : ∀ s, State.KeepsAxes s (f s)) {s t : State}
    (e : State.event f s = .next t) : s.KeepsAxes t := by
  obtain rfl := Host.Outcome.next.inj e
  split
  · exact (h s).trans {}
  · exact .refl s

/-- An event but an encoder's step and a start keeps the axes. -/
theorem State.keepsAxes_exec_event {i : Instr} {s t : State} (event : i.code = none)
    (still : ∀ e p, i ≠ .encoderStep e p) (running : ∀ p, i ≠ .start p) (e : exec i s = .next t) : s.KeepsAxes t := by
  cases i
  case undefinedFunction => exact State.keepsAxes_event (State.keepsAxes_undefinedFunction _ _ _) e
  case frameReceived => exact State.keepsAxes_event (State.keepsAxes_frameReceived _ _ _) e
  case receiveGapTimeout l => exact State.keepsAxes_event (f := State.receiveGap l) (fun _ => {}) e
  case answerSent => exact State.keepsAxes_event (State.keepsAxes_answerSent _) e
  case linkBreak => exact State.keepsAxes_event (State.keepsAxes_linkBreak _) e
  case encoderStep k p => exact absurd rfl (still k p)
  case indexPulse => exact State.keepsAxes_event State.keepsAxes_indexPulse e
  case edgeActive => exact State.keepsAxes_event State.keepsAxes_edgeActive e
  case edgeInactive => exact State.keepsAxes_event State.keepsAxes_edgeInactive e
  case dwellEnd => exact State.keepsAxes_event State.keepsAxes_dwellEnd e
  case deadTimeEnd => exact State.keepsAxes_event State.keepsAxes_deadTimeEnd e
  case guardOpens => exact State.keepsAxes_event State.keepsAxes_guardOpens e
  case guardCloses => exact State.keepsAxes_event State.keepsAxes_guardCloses e
  case stationTimeout => exact State.keepsAxes_event State.keepsAxes_stationExpires e
  case doorOpens => exact State.keepsAxes_event State.keepsAxes_doorOpens e
  case doorCloses => exact State.keepsAxes_event State.keepsAxes_doorCloses e
  case dispenseTimeout => exact State.keepsAxes_event (fun s => s.keepsAxes_dispenseExpires _) e
  case loadTimeout => exact State.keepsAxes_event (fun s => s.keepsAxes_loadExpires _) e
  case editIdleTimeout l => exact State.keepsAxes_event (f := editExpires l) (fun _ => {}) e
  case hallClockAdvance => exact State.keepsAxes_event State.keepsAxes_advanceHall e
  case pendingAgeTick => exact State.keepsAxes_event State.keepsAxes_agePending e
  case start p => exact absurd rfl (running p)
  case mainPowerLoss => exact Host.Outcome.next.inj e ▸ {}
  case backupSupplyLoss => exact Host.Outcome.next.inj e ▸ s.keepsAxes_backupSupplyLoss
  case characterReceived => exact State.keepsAxes_event (State.keepsAxes_characterReceived _ _ _) e
  case breakLineReturnsToMark l => exact State.keepsAxes_event (f := State.lineToMark l) (fun _ => {}) e
  all_goals cases event

/-- Every command but an encoder's step and a start keeps the axes. -/
theorem State.keepsAxes_exec {i : Instr} {s t : State} (still : ∀ e p, i ≠ .encoderStep e p)
    (running : ∀ p, i ≠ .start p) (e : exec i s = .next t) : s.KeepsAxes t := by
  cases request : i.code with
  | none => exact State.keepsAxes_exec_event request still running e
  | some k =>
    obtain ⟨c, -, run⟩ := exec_request s request
    exact State.keepsAxes_event (State.keepsAxes_submit i c) (run ▸ e)

/-- Settles O25: every other command keeps the axes. -/
theorem countersMoveOnlyByEncoders : Obligations.CountersMoveOnlyByEncoders := fun _ _ _ e still running =>
  have k := State.keepsAxes_exec still running e
  ⟨k.z, k.x⟩

/-- Every command keeps the settings, the slots and the angle in their ranges. -/
theorem State.ranged_exec {i : Instr} {s t : State} (h : s.SettingsRanged) (e : exec i s = .next t) :
    t.SettingsRanged := by
  by_cases stepped : ∃ k p, i = .encoderStep k p
  · obtain ⟨k, p, rfl⟩ := stepped
    obtain rfl := Host.Outcome.next.inj e
    split
    · obtain ⟨active, parked, angle⟩ := State.ranged_encoderStep h k p
      exact ⟨active, parked, angle⟩
    · exact h
  · by_cases started : ∃ p, i = .start p
    · obtain ⟨p, rfl⟩ := started
      exact Host.Outcome.next.inj e ▸ State.ranged_start h p
    · exact (State.keepsAxes_exec (fun k p same => stepped ⟨k, p, same⟩) (fun p same => started ⟨p, same⟩) e).ranged h

/-- Settles O58: a step takes a command off the queue and runs it, or lets an idle second pass. -/
theorem stepsKeepTheSettingsRanged : Obligations.StepsKeepTheSettingsRanged := by
  intro s t h e
  unfold step at e
  split at e
  · exact Host.Outcome.next.inj e ▸ s.keepsAxes_idleSecond.ranged h
  · next rest _ =>
    have taken : s.KeepsAxes { s with pending := rest } := {}
    exact State.ranged_exec (taken.ranged h) e

end Sys2Proof.Machine

/-! PROOF. The encoders' steps and the index pulse (R41 to R45): each event as one change of the capture unit. -/

namespace Sys2Proof.Machine

-- One proof after another: side by side their threads need more memory than the checks allow.
set_option Elab.async false

/-! ### The cycle of four phases (R42) -/

theorem phaseChange_self (p : Fin 4) : phaseChange p p = .same := by decide +revert

theorem phaseChange_up (p : Fin 4) : phaseChange p (p + 1) = .up := by decide +revert

theorem phaseChange_down (p : Fin 4) : phaseChange (p + 1) p = .down := by decide +revert

theorem phaseChange_illegal (p : Fin 4) : phaseChange p (p + 2) = .illegal := by decide +revert

/-! ### Encoder steps (R41 to R43) -/

section
variable {s : State} {e : Encoder} {p : Fin 4}

theorem exec_encoderStep (up : s.mainUp = true) :
    exec (.encoderStep e p) s = .next (s.encoderStep e p).judgeAttention := State.event_up _ _ up

/-- The phases one place on: a count up. -/
theorem exec_encoderStep_up (up : s.mainUp = true) (h : p = s.lines.phase e + 1) :
    exec (.encoderStep e p) s = .next (State.judgeAttention
      { s with lines := s.lines.setPhase e p, capture := s.capture.countUp s.settings.countsPerRev e }) := by
  subst h
  rw [exec_encoderStep up, State.encoderStep, phaseChange_up]

/-- The phases one place back: a count down. -/
theorem exec_encoderStep_down (up : s.mainUp = true) (h : s.lines.phase e = p + 1) :
    exec (.encoderStep e p) s = .next (State.judgeAttention
      { s with lines := s.lines.setPhase e p, capture := s.capture.countDown s.settings.countsPerRev e }) := by
  rw [exec_encoderStep up, State.encoderStep, h, phaseChange_down]

theorem exec_encoderStep_same (up : s.mainUp = true) (h : p = s.lines.phase e) :
    exec (.encoderStep e p) s = .next s.judgeAttention := by
  subst h
  rw [exec_encoderStep up, State.encoderStep, phaseChange_self]

/-- Both phases changed: an illegal step. -/
theorem exec_encoderStep_illegal (up : s.mainUp = true) (h : p = s.lines.phase e + 2) :
    exec (.encoderStep e p) s = .next (State.judgeAttention
      (State.illegalStep { s with lines := s.lines.setPhase e p } e)) := by
  subst h
  rw [exec_encoderStep up, State.encoderStep, phaseChange_illegal]

end

/-- Settles O19: a change of phase by one place is a count, and none is no change. -/
theorem legalStepsCount : Obligations.LegalStepsCount := fun _ _ up =>
  ⟨exec_encoderStep_up (e := .z) up, exec_encoderStep_down (e := .z) up, exec_encoderStep_up (e := .x) up,
    exec_encoderStep_down (e := .x) up, exec_encoderStep_up (e := .a) up, exec_encoderStep_down (e := .a) up,
    fun _ => exec_encoderStep_same up⟩

/-! ### Glitches (R42) -/

theorem Capture.markGlitch_eq (c : Capture) (e : Encoder) : c.markGlitch e =
    { c with glitchZ := c.glitchZ || decide (e = .z), glitchX := c.glitchX || decide (e = .x)
             glitchA := c.glitchA || decide (e = .a) } := by
  cases e <;> simp [Capture.markGlitch]

theorem State.illegalStep_of_unmounted {s : State} (h : s.engine.phase = .idle ∨ s.engine.phase = .offered)
    (e : Encoder) : s.illegalStep e = { s with capture := s.capture.markGlitch e } := by
  unfold State.illegalStep
  rcases h with h | h <;> rw [h]

theorem State.illegalStep_of_mounted {s : State} (h : s.engine.phase = .mounted ∨ s.engine.phase = .stationDone)
    (e : Encoder) : s.illegalStep e =
      { s with capture := s.capture.markGlitch e
               engine := { s.engine with flags := { s.engine.flags with glitch := true } } } := by
  unfold State.illegalStep
  rcases h with h | h <;> rw [h]

theorem State.illegalStep_of_armed {s : State} {left : Nat} (h : s.engine.phase = .armed left) (e : Encoder) :
    s.illegalStep e =
      { s with capture := { s.capture.markGlitch e with
                 buffer := { (s.capture.markGlitch e).buffer with glitch := true } } } := by
  unfold State.illegalStep
  rw [h]

/-- Settles O20: the mark of the encoder, and the engine's phase says whose flag is set. -/
theorem illegalStepsGlitch : Obligations.IllegalStepsGlitch := by
  intro s e p up twice g u
  have run := exec_encoderStep_illegal up twice
  refine ⟨fun phase => ?_, fun phase => ?_, fun left phase => ?_⟩
  · rw [run, State.illegalStep_of_unmounted (s := { s with lines := s.lines.setPhase e p }) phase,
      Capture.markGlitch_eq]
  · rw [run, State.illegalStep_of_mounted (s := { s with lines := s.lines.setPhase e p }) phase, Capture.markGlitch_eq]
  · rw [run, State.illegalStep_of_armed (s := { s with lines := s.lines.setPhase e p }) phase, Capture.markGlitch_eq]

/-! ### The index pulse (R44, R45) -/

/-- A count within two of a revolution's passes (R44). -/
theorem indexCheck_eq (pending : Bool) (count cpr : Nat) : indexCheck pending count cpr =
    if pending then .unchecked else if cpr ≤ count + 2 ∧ count ≤ cpr + 2 then .passed else .slipped := by
  have near : ((count : Int) - cpr).natAbs ≤ 2 ↔ cpr ≤ count + 2 ∧ count ≤ cpr + 2 := by omega
  simp only [indexCheck, near]

theorem EnginePhase.isArmed_iff (p : EnginePhase) : p.isArmed = true ↔ ∃ left, p = .armed left := by
  cases p <;> simp [EnginePhase.isArmed]

/-- Settles O21: the check decides, and a slip discards only while ARMED. -/
theorem indexPulseChecksTheRevolution : Obligations.IndexPulseChecksTheRevolution := by
  intro s up count result g
  have run : exec .indexPulse s = .next s.indexPulse.judgeAttention := State.event_up _ _ up
  have check : indexCheck s.capture.checkPending s.capture.span.natAbs s.settings.countsPerRev = result :=
    indexCheck_eq _ _ _
  refine ⟨fun kept => ?_, fun left slipped phase => ?_⟩
  · have stays : ¬ (result = .slipped ∧ s.engine.phase.isArmed = true) := by
      rintro ⟨slipped, armed⟩
      obtain ⟨left, phase⟩ := (EnginePhase.isArmed_iff _).1 armed
      exact kept.elim (fun ne => ne slipped) fun ne => ne left phase
    rw [run, State.indexPulse, check, if_neg stays]
  · have discards : result = .slipped ∧ s.engine.phase.isArmed = true :=
      ⟨slipped, (EnginePhase.isArmed_iff _).2 ⟨left, phase⟩⟩
    rw [run, State.indexPulse, check, if_pos discards, State.slipDiscard]
    cases qualifier : s.capture.qualifier <;> rfl

end Sys2Proof.Machine

/-! PROOF. The edge qualifier and the station buffer (R46 to R54, R80, R82): what each line and timer does to the
qualifier, and what the armed station makes of a qualified sample. -/

namespace Sys2Proof.Machine

-- One proof after another: side by side their threads need more memory than the checks allow.
set_option Elab.async false

/-! ### The qualifier and its lines (R46 to R50) -/

/-- A qualifier put where it stands already changes nothing. -/
theorem State.setQualifier_self {s : State} {q : Qualifier} (h : s.capture.qualifier = q) : s.setQualifier q = s := by
  subst h
  rfl

/-- The edge line as it stands when it is active. -/
def State.edgeRaised (s : State) : State :=
  { s with lines := { s.lines with edgeLevel := s.settings.edgePolarity == 1 } }

/-- The edge line as it stands when it is inactive. -/
def State.edgeLowered (s : State) : State :=
  { s with lines := { s.lines with edgeLevel := !(s.settings.edgePolarity == 1) } }

section
variable {s : State}

/-- The edge line going active in LISTENING latches the counters, and a dwell of 0 qualifies the latch (R47, R48). -/
theorem State.edgeActive_of_listening (low : s.edgeIsActive = false) (q : s.capture.qualifier = .listening) :
    s.edgeActive = if s.settings.dwell = 0 then s.edgeRaised.qualify s.latchNow
      else s.edgeRaised.setQualifier (.dwelling s.latchNow) := by
  simp only [State.edgeActive, low, q, State.edgeRaised, Bool.false_eq_true, if_false]

theorem State.edgeActive_of_deadTime (low : s.edgeIsActive = false) (q : s.capture.qualifier = .deadTime) :
    s.edgeActive = s.edgeRaised.setQualifier .heldActive := by
  simp only [State.edgeActive, low, q, State.edgeRaised, Bool.false_eq_true, if_false]

theorem State.edgeActive_of_guarded (low : s.edgeIsActive = false) (q : s.capture.qualifier = .guarded) :
    s.edgeActive = s.edgeRaised.setQualifier .guarded := by
  rw [State.setQualifier_self (s := s.edgeRaised) q]
  simp only [State.edgeActive, low, q, State.edgeRaised, Bool.false_eq_true, if_false]

/-- The edge line going inactive drops a latch (R48). -/
theorem State.edgeInactive_of_dwelling {d : Latch} (high : s.edgeIsActive = true)
    (q : s.capture.qualifier = .dwelling d) : s.edgeInactive = s.edgeLowered.setQualifier .listening := by
  simp only [State.edgeInactive, high, q, State.edgeLowered, Bool.not_true, Bool.false_eq_true, if_false]

/-- The edge line going inactive in HELD_ACTIVE starts the dead time, if there is one (R49). -/
theorem State.edgeInactive_of_heldActive (high : s.edgeIsActive = true) (q : s.capture.qualifier = .heldActive) :
    s.edgeInactive =
      s.edgeLowered.setQualifier (if s.settings.deadTime = 0 then .listening else .deadTime) := by
  simp only [State.edgeInactive, high, q, State.edgeLowered, Bool.not_true, Bool.false_eq_true, if_false]
  split <;> rfl

theorem State.edgeInactive_of_guarded (high : s.edgeIsActive = true) (q : s.capture.qualifier = .guarded) :
    s.edgeInactive = s.edgeLowered.setQualifier .guarded := by
  rw [State.setQualifier_self (s := s.edgeLowered) q]
  simp only [State.edgeInactive, high, q, State.edgeLowered, Bool.not_true, Bool.false_eq_true, if_false]

theorem State.deadTimeEnd_of_deadTime (q : s.capture.qualifier = .deadTime) :
    s.deadTimeEnd = s.setQualifier .listening := by
  simp only [State.deadTimeEnd, q]

/-- The guard line closing gives the qualifier the state the edge line shows (R50). -/
theorem State.guardCloses_of_open (opened : s.guardIsOpen = true) : s.guardCloses =
    State.setQualifier { s with lines := { s.lines with guardLevel := s.settings.guardRef == 1 } }
      (if s.edgeIsActive then .heldActive else .listening) := by
  have closed : State.guardIsOpen { s with lines := { s.lines with guardLevel := s.settings.guardRef == 1 } } = false :=
    bne_self_eq_false _
  rw [State.guardCloses, if_pos opened, State.requalify, closed]
  rfl

end

/-- Settles O22, line by line and state by state. -/
theorem linesMoveTheQualifier : Obligations.LinesMoveTheQualifier := by
  intro s up active inactive open_ closed at_ h
  have edgeUp : exec .edgeActive s = .next s.edgeActive.judgeAttention := State.event_up _ _ up
  have edgeDown : exec .edgeInactive s = .next s.edgeInactive.judgeAttention := State.event_up _ _ up
  have deadTime : exec .deadTimeEnd s = .next s.deadTimeEnd.judgeAttention := State.event_up _ _ up
  have opens : exec .guardOpens s = .next s.guardOpens.judgeAttention := State.event_up _ _ up
  have closes : exec .guardCloses s = .next s.guardCloses.judgeAttention := State.event_up _ _ up
  refine ⟨fun low q dwell => ?_, fun low q dwell => ?_, fun low q => ?_, fun low q => ?_, fun d high q => ?_,
    fun high q dead => ?_, fun high q dead => ?_, fun high q => ?_, fun q => ?_, fun shut => ?_,
    fun opened high => ?_, fun opened low => ?_⟩
  · rw [edgeUp, State.edgeActive_of_listening low q, if_neg dwell]
    rfl
  · rw [edgeUp, State.edgeActive_of_listening low q, if_pos dwell]
    rfl
  · rw [edgeUp, State.edgeActive_of_deadTime low q]
    rfl
  · rw [edgeUp, State.edgeActive_of_guarded low q]
    rfl
  · rw [edgeDown, State.edgeInactive_of_dwelling high q]
    rfl
  · rw [edgeDown, State.edgeInactive_of_heldActive high q, if_neg dead]
    rfl
  · rw [edgeDown, State.edgeInactive_of_heldActive high q, if_pos dead]
    rfl
  · rw [edgeDown, State.edgeInactive_of_guarded high q]
    rfl
  · rw [deadTime, State.deadTimeEnd_of_deadTime q]
    rfl
  · rw [opens, State.guardOpens, if_neg (by simp [shut])]
    rfl
  · rw [closes, State.guardCloses_of_open opened, if_pos high]
    rfl
  · rw [closes, State.guardCloses_of_open opened, if_neg (by simp [low])]
    rfl

/-! ### The station an engine is armed for (R47, R52) -/

section
variable {s : State} {j : Job} {h : Latch}

theorem State.armedStation?_of_armed {left : Nat} (phase : s.engine.phase = .armed left)
    (current : s.currentJob? = some j) :
    s.armedStation? = some { job := j.number, index := s.engine.nextStation } := by
  simp only [State.armedStation?, phase, current, EnginePhase.isArmed, if_true, Option.map_some]

theorem State.armedStation?_of_not_armed (phase : ∀ left, s.engine.phase ≠ .armed left) : s.armedStation? = none :=
  if_neg fun armed =>
    have ⟨left, e⟩ := (EnginePhase.isArmed_iff _).1 armed
    phase left e

/-- A sample of no station, or of another than the armed one, reaches no buffer (R52). -/
theorem State.offer_of_other (other : h.station = none ∨ h.station ≠ s.armedStation?) : s.offer h = s := by
  unfold State.offer
  split
  · rfl
  · rw [if_neg]
    rintro ⟨noted, -, armed⟩
    rcases other with none | ne
    · rw [none] at noted
      cases noted
    · exact ne armed

/-- A sample of the armed station is judged (R52). -/
theorem State.offer_of_armed {i : StationId} (current : s.currentJob? = some j) (station : h.station = some i)
    (buffer : s.capture.buffer.station = h.station) (armed : s.armedStation? = some i) :
    s.offer h = s.judgeSample j h.sample := by
  simp only [State.offer, current]
  exact if_pos ⟨by rw [station]; rfl, buffer.symm, station.trans armed.symm⟩

/-! ### A sample judged (R53, R54) -/

/-- A sample is accepted unless the buffer has an angle and the sample's lies beyond the tolerance, the shorter way
round. -/
theorem angleAccepted_iff {t : Settings} {angle : Option Nat} {a : Nat} : angleAccepted t angle a = true ↔
    ∀ b, angle = some b → ¬ t.angleTol < angleDistance t.countsPerRev a b := by
  cases angle <;> simp [angleAccepted]

theorem State.judgeSample_of_far {x : Sample} {a : Nat} (angle : s.capture.buffer.angle = some a)
    (far : s.settings.angleTol < angleDistance s.settings.countsPerRev x.a a) : s.judgeSample j x =
      { s with capture := { s.capture with buffer := { s.capture.buffer with rejected := true } } } :=
  if_neg fun accepted => angleAccepted_iff.1 accepted a angle far

/-- An accepted sample that leaves the station short of samples (R53). -/
theorem State.judgeSample_of_short {x : Sample} (accepted : angleAccepted s.settings s.capture.buffer.angle x.a = true)
    (short : s.capture.buffer.samples.length + 1 < j.plan.samples) : s.judgeSample j x =
      { s with capture := { s.capture with buffer := s.capture.buffer.accept x } } := by
  have more : ¬ j.plan.samples ≤ (s.capture.buffer.accept x).samples.length := by
    simpa [StationBuffer.accept] using short
  rw [State.judgeSample, if_pos accepted, if_neg more]

/-- The accepted sample that is the station's last completes it (R54, R80). -/
theorem State.judgeSample_of_last {x : Sample} (accepted : angleAccepted s.settings s.capture.buffer.angle x.a = true)
    (last : j.plan.samples ≤ s.capture.buffer.samples.length + 1) : s.judgeSample j x =
      State.completeStation { s with capture := { s.capture with buffer := s.capture.buffer.accept x } } j false := by
  have enough : j.plan.samples ≤ (s.capture.buffer.accept x).samples.length := by
    simpa [StationBuffer.accept] using last
  rw [State.judgeSample, if_pos accepted, if_pos enough]

/-! ### A station complete (R80, R82) -/

/-- The engine with a station added to its job's results (R80). -/
def Engine.withStation (e : Engine) (b : StationBuffer) : Engine :=
  { phase := .stationDone, nextStation := e.nextStation + 1
    results := e.results ++ [{ zs := b.samples.map (·.z), xs := b.samples.map (·.x), angle := b.angle }]
    flags := { e.flags with rejected := e.flags.rejected || b.rejected, glitch := e.flags.glitch || b.glitch } }

theorem State.completeStation_full (s : State) (j : Job) : s.completeStation j false =
    if j.plan.stations ≤ s.engine.nextStation + 1
    then State.finishJob { s with engine := s.engine.withStation s.capture.buffer } j
    else { s with engine := s.engine.withStation s.capture.buffer } := by
  simp only [State.completeStation, Engine.withStation, JobFlags.addStation, Bool.or_false]

theorem State.finishJob_of_record {n : RecNo} (record : j.record = some n) : s.finishJob j = s.computeJob j n := by
  simp only [State.finishJob, record]

theorem State.finishJob_of_gauge (record : j.record = none) : s.finishJob j = s.calibrateJob j := by
  simp only [State.finishJob, record]

theorem exec_dwellEnd (up : s.mainUp = true) (q : s.capture.qualifier = .dwelling h) :
    exec .dwellEnd s = .next (s.qualify h).judgeAttention := by
  have run : exec .dwellEnd s = .next s.dwellEnd.judgeAttention := State.event_up _ _ up
  rw [run, State.dwellEnd, q]

end

/-- Settles O23: a sample of another station is not offered; one of the armed station is rejected, appended, or
completes the station. -/
theorem dwellEndQualifiesTheSample : Obligations.DwellEndQualifiesTheSample := by
  intro s h up q b g
  have run : exec .dwellEnd s = .next (State.judgeAttention (State.offer { s with capture := g } h)) :=
    exec_dwellEnd up q
  have unoffered (other : h.station = none ∨ h.station ≠ s.armedStation?) :
      exec .dwellEnd s = .next (State.judgeAttention { s with capture := g }) := by
    rw [run, State.offer_of_other (s := { s with capture := g }) other]
  refine ⟨fun none => unoffered (.inl none), fun phase => unoffered ?_, fun left j phase current ne => unoffered ?_,
    fun left j phase current station buffer => ?_⟩
  · rw [State.armedStation?_of_not_armed phase]
    exact or_not
  · exact .inr (State.armedStation?_of_armed phase current ▸ ne)
  · intro far full complete
    have judged : exec .dwellEnd s =
        .next (State.judgeAttention (State.judgeSample { s with capture := g } j h.sample)) := by
      rw [run, State.offer_of_armed (s := { s with capture := g }) current station buffer
        (State.armedStation?_of_armed phase current)]
    have accepted (near : ∀ a, b.angle = some a → ¬ far a) : angleAccepted s.settings b.angle h.sample.a = true :=
      angleAccepted_iff.2 near
    refine ⟨fun a angle beyond => ?_, fun near short => ?_, fun near last => ?_⟩
    · rw [judged, State.judgeSample_of_far (s := { s with capture := g }) angle beyond]
    · rw [judged, State.judgeSample_of_short (s := { s with capture := g }) (accepted near) short]
      rfl
    · have completed : exec .dwellEnd s = .next (State.judgeAttention
          (if j.plan.stations ≤ s.engine.nextStation + 1 then complete.finishJob j else complete)) := by
        rw [judged, State.judgeSample_of_last (s := { s with capture := g }) (accepted near) last,
          State.completeStation_full]
        rfl
      refine ⟨fun more => ?_, fun final => ⟨fun n record => ?_, fun record => ?_⟩⟩
      · rw [completed, if_neg (Nat.not_le.2 more)]
      · rw [completed, if_pos final, State.finishJob_of_record record]
      · rw [completed, if_pos final, State.finishJob_of_gauge record]

end Sys2Proof.Machine

/-! PROOF. READ_AXES (R61) and ARM_STATION (R51, R79): each as its owning rule on the received state, answered. -/

namespace Sys2Proof.Machine

-- One proof after another: side by side their threads need more memory than the checks allow.
set_option Elab.async false

/-! ### The optional items of READ_AXES (R61, R203) -/

/-- The count and the check each stand behind a marker of their own. -/
theorem bRevolution_eq (r : Option Revolution) : bRevolution r =
    match r with
    | none => [0, 0, 0, 0, 0, 0, 0]
    | some v => b1 1 ++ b4 v.count ++ b1 1 ++ b1 v.result.code := by
  cases r with
  | none => rfl
  | some v => exact (List.append_assoc (b1 1 ++ b4 v.count) (b1 1) (b1 v.result.code)).symm

theorem bOptSample_eq (x : Option Sample) : bOptSample x =
    match x with
    | none => [0, 0, 0, 0, 0, 0, 0, 0, 0, 0, 0, 0, 0]
    | some v => b1 1 ++ b4 v.z.toNat ++ b4 v.x.toNat ++ b4 v.a := by
  cases x <;> rfl

theorem bOptStation_eq (i : Option StationId) : bOptStation i =
    match i with
    | none => [0, 0, 0, 0]
    | some v => b1 1 ++ b2 v.job ++ b1 v.index := by
  cases i <;> rfl

theorem StationBuffer.flagsCode_eq (b : StationBuffer) :
    b.flagsCode = (if b.rejected then 4 else 0) + (if b.glitch then 8 else 0) := rfl

/-- Settles O24: the owning rule's bytes, item by item. -/
theorem readAxesAnswersTheCounters : Obligations.ReadAxesAnswersTheCounters := by
  intro s c taken k t
  refine exec_taken taken rfl rfl (Prod.ext rfl (congrArg (Reply.mk .ok) ?_))
  rw [axesBytes, bRevolution_eq, bOptSample_eq, bOptStation_eq, StationBuffer.flagsCode_eq] <;> rfl

/-! ### ARM_STATION (R79) -/

theorem State.currentNumbered?_of_current {s : State} {j : Job} {n : Nat} (busy : s.engine.phase ≠ .idle)
    (current : s.currentJob? = some j) (number : n = j.number) : s.currentNumbered? n = some j := by
  simp only [State.currentNumbered?, busy, current, number, if_true, if_false]

/-- The job's next station is armed while the engine is MOUNTED or STATION_DONE. -/
theorem opArmStation_ready {s : State} {j : Job} {num : BitVec 16} {station : Byte}
    (phase : s.engine.phase = .mounted ∨ s.engine.phase = .stationDone) (current : s.currentJob? = some j)
    (number : num.toNat = j.number) (next : station.toNat = s.engine.nextStation) :
    opArmStation num station s = (s.armed j, okWith []) := by
  have busy : s.engine.phase ≠ .idle := by
    rcases phase with e | e <;> rw [e] <;> exact nofun
  have ready : ¬ (s.engine.phase ≠ .mounted ∧ s.engine.phase ≠ .stationDone) := by tauto
  rw [opArmStation, State.currentNumbered?_of_current busy current number]
  exact (if_neg ready).trans (if_neg (not_not.2 next))

/-- Settles O31: the request passes every check, and the engine is armed with an empty buffer. -/
theorem armStationClearsTheBuffer : Obligations.ArmStationClearsTheBuffer := by
  intro s c num station j taken current number phase next empty
  exact exec_taken taken rfl rfl (opArmStation_ready (s := s.received c.link) phase current number next)

end Sys2Proof.Machine

/-! PROOF. Fresh numbers, the enqueue, the auto-calibrate check and MEASURE (R62 to R67, R113, R114). -/

namespace Sys2Proof.Machine

-- One proof after another: side by side their threads need more memory than the checks allow.
set_option Elab.async false

/-! ### Numbers (R64) -/

theorem nextNumber_eq {n : Nat} (top : n ≤ 65535) : nextNumber n = if n = 65535 then 1 else n + 1 := by
  unfold nextNumber
  split_ifs <;> omega

theorem freshNumber_range : ∀ (fuel n : Nat) (held : List Nat), 1 ≤ n → n ≤ 65535 →
    1 ≤ freshNumber fuel n held ∧ freshNumber fuel n held ≤ 65535
  | 0, _, _, low, top => ⟨low, top⟩
  | fuel + 1, n, held, low, top => by
    unfold freshNumber
    split
    · have next := nextNumber_eq top
      split_ifs at next <;> exact freshNumber_range fuel _ held (by omega) (by omega)
    · exact ⟨low, top⟩

/-- The number an entry takes lies in 1..65,535 (R64). -/
theorem takeNumber_range {next : Nat} (held : List Nat) (low : 1 ≤ next) (top : next ≤ 65535) :
    1 ≤ takeNumber next held ∧ takeNumber next held ≤ 65535 := freshNumber_range _ _ _ low top

/-- Numbers come round again only after 65,535 of them. -/
theorem injOn_iterate_nextNumber (n : Nat) : Set.InjOn (fun i => nextNumber^[i] n) {i | i < 65535} := by
  intro i hi k hk same
  dsimp only at same
  rw [iterate_nextNumber n i hi, iterate_nextNumber n k hk] at same
  rw [Set.mem_ofPred_eq] at hi hk
  split_ifs at same <;> omega

/-- While one number of the 65,535 is left, the number taken is held by no entry: were it held, so would be each of the
numbers passed over, one more than there are entries. -/
theorem takeNumber_not_mem_of_lt (next : Nat) {held : List Nat} (room : held.length < 65535) :
    takeNumber next held ∉ held := by
  intro taken
  have passed := iterate_mem_of_freshNumber_mem _ _ _ taken
  have few : (Finset.range (held.length + 1)).card ≤ held.toFinset.card :=
    Finset.card_le_card_of_injOn (fun i => nextNumber^[i] next)
      (fun i hi => List.mem_toFinset.2 (passed i (Nat.lt_succ_iff.1 (Finset.mem_range.1 hi))))
      ((injOn_iterate_nextNumber next).mono fun i hi => (Finset.mem_range.1 hi).trans_le room)
  have distinct := held.toFinset_card_le
  rw [Finset.card_range] at few
  omega

/-- A number that no entry holds is taken as it is. -/
theorem takeNumber_of_not_mem {next : Nat} {held : List Nat} (free : next ∉ held) : takeNumber next held = next := by
  unfold takeNumber
  cases held.length with
  | zero => rfl
  | succ fuel => rw [freshNumber, if_neg (mt List.contains_iff_mem.1 free)]

/-! ### The auto-calibrate check (R113, R114) -/

/-- The reference is stale while a time it needs is missing, or once valid-until is reached (R113). -/
theorem State.stale_iff (s : State) : s.stale = true ↔
    s.reference.present = false ∨ s.hall.set = false ∨ s.reference.validUntil = none ∨
      ∃ v, s.reference.validUntil = some v ∧ v ≤ s.hall.count := by
  unfold State.stale State.hallTime?
  cases s.hall.set <;> cases s.reference.validUntil <;> simp

/-- The seven conditions of the auto-calibrate check (R114). -/
theorem State.autoCalDue_iff (s : State) : s.autoCalDue = true ↔
    s.settings.autoCal = 1 ∧ s.stale = true ∧ (∀ j ∈ s.jobs, j.kind ≠ .calibrate) ∧ s.reference.gaugeTag ≠ 0 ∧
      s.reference.timePending = false ∧ (s.reference.present = false ∨ s.reference.lastOutcome ≠ .driftRejected) ∧
      s.jobs.length < 16 := by
  simp [State.autoCalDue, State.hasCalibrate, and_assoc]

/-- Settles O26: the number is the first free one met, the enqueue places the job with it, and the check is the seven
conditions before an enqueue at the head. -/
theorem newEntriesTakeFreshNumbers : Obligations.NewEntriesTakeFreshNumbers := by
  refine ⟨fun next held low top room => ?_, fun s kind r plan origin urgent low top _ => ?_, fun s low top => ?_⟩
  · obtain ⟨least, greatest⟩ := takeNumber_range held low top
    exact ⟨least, greatest, takeNumber_not_mem_of_lt next room, takeNumber_of_not_mem, nextNumber_eq top⟩
  · intro n j
    have next : nextNumber n = if n = 65535 then 1 else n + 1 := nextNumber_eq (takeNumber_range _ low top).2
    rw [← next]
    rfl
  · intro ref stale due n
    have next : nextNumber n = if n = 65535 then 1 else n + 1 := nextNumber_eq (takeNumber_range _ low top).2
    have met : s.autoCalDue = true ↔ due := by rw [s.autoCalDue_iff, s.stale_iff]
    refine ⟨s.stale_iff, fun holds => ?_, fun fails => ?_⟩
    · rw [State.autoCalCheck, if_pos (met.2 holds), ← next]
      rfl
    · rw [State.autoCalCheck, if_neg (mt met.1 fails)]

/-! ### MEASURE (R65, R66) -/

/-- A change that leaves a record as it was leaves the state as it was (R11). -/
theorem State.changeTool_of_same {s : State} {n : RecNo} {f : ToolRecord → ToolRecord} (h : f (s.tool n) = s.tool n) :
    s.changeTool n f = s := by
  rw [s.changeTool_eq, h, ToolRecord.change_self, s.setTool_self]

/-- A record that is measured for a preset is PRESET_DUE; only a READY one changes for it (R66). -/
theorem State.changeTool_presetDue {s : State} {n : RecNo}
    (state : (s.tool n).state = .presetDue ∨ (s.tool n).state = .ready) :
    (s.changeTool n fun r => { r with state := .presetDue }) =
      if (s.tool n).state = .ready
      then s.setTool n { s.tool n with state := .presetDue, version := (s.tool n).version + 1 } else s := by
  rcases state with state | state
  · have same : { s.tool n with state := .presetDue } = s.tool n := by rw [← state]
    exact (State.changeTool_of_same same).trans (if_neg (by rw [state]; exact nofun)).symm
  · have moves : RecState.presetDue ≠ (s.tool n).state := fun e => nomatch e.trans state
    exact (State.changeTool_of_state moves).trans (if_pos state).symm

theorem JobKind.ne_empty_of_mayMeasure {k : JobKind} {st : RecState} (may : k.mayMeasure st = true) : st ≠ .empty := by
  rintro rfl
  cases k <;> cases may

theorem Location.measurable_of {loc : Location} (h : (∃ p, loc = .crib p) ∨ loc = .presetter) :
    loc.measurable = true := by
  rcases h with ⟨p, rfl⟩ | rfl <;> rfl

/-- A MEASURE that names a kind, with its priority and its present-marker in range, is judged by its kind's rule. -/
theorem opMeasure_of_kind {l : LinkId} {kind urgent marker f st sa : Byte} {rec : BitVec 16} {k : JobKind}
    {override : Bool} (s : State) (named : jobKind? kind.toNat = some k) (flag : urgent.toNat ≤ 1)
    (read : readMarker marker = if override then .present else .absent) :
    opMeasure l kind rec urgent marker f st sa s =
      if k = .calibrate then measureGauge l (urgent == 1) override s
      else measureTool l k rec (urgent == 1) override f st sa s := by
  have marked : (readMarker marker == .present) = override := by rw [read]; cases override <;> rfl
  have heeded : ¬ (1 < urgent.toNat ∨ readMarker marker = .refused) := by
    rw [read]
    cases override <;> simp [flag]
  rw [opMeasure, named]
  dsimp only
  rw [if_neg heeded, marked]
  cases k <;> rfl

/-- A tool's job is accepted when nothing stands against it (R65 steps 3 to 5, R66). -/
theorem measureTool_accepted {l : LinkId} {k : JobKind} {rec : BitVec 16} {n : RecNo} {f st sa : Byte} {s : State}
    (urgent override : Bool) (number : rec.toNat = n.val) (clear : (s.tool n).recalled = false)
    (unnamed : s.jobOf? n = none) (may : k.mayMeasure (s.tool n).state = true) (place : (s.tool n).loc.measurable = true)
    (room : s.jobs.length < 16) : measureTool l k rec urgent override f st sa s =
      measureAccepted (State.enqueue (if k = .preset then s.changeTool n fun r => { r with state := .presetDue } else s) k
          (some n) (measurePlan override f st sa (s.tool n)) (originOf (s.link l).role) urgent .tail)
        (override && planClamped f.toNat st.toNat sa.toNat) := by
  rw [measureTool, recNo?_eq number]
  dsimp only
  rw [if_neg (JobKind.ne_empty_of_mayMeasure may), if_neg (Bool.eq_false_iff.1 clear), unnamed, may, place,
    if_neg (Nat.not_le.2 room)]
  rfl

/-- The gauge's job is accepted when nothing stands against it (R65 steps 2 and 5, R66). -/
theorem measureGauge_accepted {l : LinkId} {s : State} (urgent : Bool) (alone : s.hasCalibrate = false)
    (gauge : s.reference.gaugeTag ≠ 0) (room : s.jobs.length < 16) : measureGauge l urgent false s =
      measureAccepted (s.enqueue .calibrate none s.reference.plan (originOf (s.link l).role) urgent .tail) false := by
  rw [measureGauge, if_neg Bool.false_ne_true, if_neg (Bool.eq_false_iff.1 alone), if_neg gauge,
    if_neg (Nat.not_le.2 room)]

/-- Settles O27: the request passes the checks of its kind, and the job is enqueued behind the record's change. -/
theorem measureEnqueuesAJob : Obligations.MeasureEnqueuesAJob := by
  intro s c num urgent f st sa taken flag room t origin plan done
  have asked : originOf (t.link c.link).role = origin := by rw [State.role_received]; rfl
  have accepted {kind marker : Byte} {q : State × Nat} {clamped : Bool}
      (rule : opMeasure c.link kind num urgent marker f st sa t = measureAccepted q clamped) :
      exec (.measure c kind num urgent marker f st sa) s = .next (done q clamped) := exec_taken taken rfl rfl rule
  refine ⟨fun n number clear unnamed place => ?_, exec_taken taken rfl rfl ?_, fun alone gauge => accepted ?_⟩
  · intro r u
    have enqueued (kind marker : Byte) (k : JobKind) (override : Bool) (named : jobKind? kind.toNat = some k)
        (ordinary : k ≠ .calibrate) (read : readMarker marker = if override then .present else .absent)
        (may : k.mayMeasure r.state = true) : exec (.measure c kind num urgent marker f st sa) s =
          .next (done (State.enqueue (if k = .preset then t.changeTool n fun r => { r with state := .presetDue } else t) k
            (some n) (if override then plan else r.plan) origin (urgent == 1) .tail)
            (override && planClamped f.toNat st.toNat sa.toNat)) := by
      refine accepted ((opMeasure_of_kind t named flag read).trans ((if_neg ordinary).trans ?_))
      rw [measureTool_accepted (s := t) (n := n) _ _ number clear unnamed may (Location.measurable_of place) room, asked]
      rfl
    refine ⟨fun state => ?_, fun state => ?_⟩
    · have may : JobKind.preset.mayMeasure r.state = true := by rcases state with e | e <;> rw [e] <;> rfl
      have due : (t.changeTool n fun r => { r with state := .presetDue }) = u := State.changeTool_presetDue state
      rw [← due]
      exact ⟨enqueued 0 0 .preset false rfl nofun rfl may, enqueued 0 1 .preset true rfl nofun rfl may⟩
    · have may : JobKind.verify.mayMeasure r.state = true := by rcases state with e | e <;> rw [e] <;> rfl
      exact ⟨enqueued 1 0 .verify false rfl nofun rfl may, enqueued 1 1 .verify true rfl nofun rfl may⟩
  · show opMeasure c.link 2 num urgent 1 f st sa t = _
    exact opMeasure_of_kind (k := .calibrate) (override := true) t rfl flag rfl
  · refine (opMeasure_of_kind (k := .calibrate) (override := false) t rfl flag rfl).trans ((if_pos rfl).trans ?_)
    rw [measureGauge_accepted (s := t) _ alone gauge room, asked]
    rfl

end Sys2Proof.Machine

/-! PROOF. CANCEL_JOB (R68, R69), the fetch round (R71, R148) and the engine's choice (R75). -/

namespace Sys2Proof.Machine

-- One proof after another: side by side their threads need more memory than the checks allow.
set_option Elab.async false

/-! ### The removal of a job (R69) -/

theorem Location.pocket?_eq_some_iff {loc : Location} {p : Fin 240} : loc.pocket? = some p ↔ loc = .crib p := by
  cases loc <;> simp [Location.pocket?]

/-- A job holds a fetch claim while it is WAITING and its record stands in the crib (R71). -/
theorem State.holdsClaim_iff {s : State} {j : Job} : s.holdsClaim j = true ↔
    j.phase = .waiting ∧ ∃ r p, j.record = some r ∧ (s.tool r).loc = .crib p := by
  cases record : j.record <;> simp [State.holdsClaim, State.jobAtCrib, record, Location.isCrib_iff]

/-- The removal of a job changes no record (R69). -/
@[simp] theorem State.tool_dropJob (s : State) (j : Job) (n : RecNo) : (s.dropJob j).tool n = s.tool n := by
  rw [State.dropJob, State.tool_autoCalCheck]
  split
  · exact State.tool_applyParked _ n
  · rfl

/-- After the removal of a job a record is named by the jobs that named it before, without the removed one (R69). -/
theorem State.jobOf?_dropJob_isNone (s : State) (j : Job) (n : RecNo) : ((s.dropJob j).jobOf? n).isNone =
    (s.jobs.filter fun k => k.number != j.number).all (fun k => k.record != some n) := by
  rw [State.dropJob, State.jobOf?_autoCalCheck_isNone]
  split
  · rw [State.engineToIdle, State.jobs_applyParked]
    rfl
  · rfl

/-- The removal of a record's job prompts a pass for an urgent claim, or a READY record at CRIB that it leaves free; that
of a job without a record prompts none (R69). -/
theorem removalPrompts_dropJob (b s : State) (j : Job) : removalPrompts b j (s.dropJob j) = j.record.any fun n =>
    (j.phase == .waiting && j.urgent && (b.tool n).loc.isCrib) ||
      ((s.tool n).state == .ready && (s.tool n).loc.isCrib &&
        (s.jobs.filter fun k => k.number != j.number).all fun k => k.record != some n) := by
  cases record : j.record with
  | none => simp [removalPrompts, State.holdsClaim, State.jobAtCrib, record]
  | some n =>
    rw [removalPrompts, record]
    dsimp only
    rw [State.tool_dropJob, State.jobOf?_dropJob_isNone, State.holdsClaim, State.jobAtCrib, record, ← Bool.and_assoc,
      Bool.and_comm j.urgent]
    rfl

/-- The withdrawal of a job that holds no order is its removal (R69). -/
theorem State.withdrawJob_of_not_fetching {b s : State} {j : Job} (h : j.phase.isFetching = false) :
    b.withdrawJob s j = (s.dropJob j).settle (removalPrompts b j (s.dropJob j)) := by
  have kept : s.withdrawFetch j = s := by
    unfold State.withdrawFetch
    split
    · next fetching =>
      rw [fetching] at h
      cases h
    · rfl
    · rfl
  rw [State.withdrawJob, kept, h, Bool.false_or]

/-- A job past its fetch and its offer may not be cancelled (R68). -/
theorem State.cancellable_eq_false {s : State} {j : Job}
    (h : (∃ o q left, j.phase = .fetching o ∧ s.order? o = some q ∧ q.phase = .fetched left) ∨
      (j.phase = .current ∧ s.engine.phase ≠ .offered)) : s.cancellable j = false := by
  rcases h with ⟨o, q, left, fetching, found, fetched⟩ | ⟨current, unoffered⟩
  · rw [State.cancellable, State.not_withdrawable_of_fetched fetching found fetched, fetching]
    rfl
  · simp [State.cancellable, State.withdrawable, current, unoffered]

theorem State.cancellable_of {s : State} {j : Job}
    (h : j.phase = .waiting ∨ (∃ o q, j.phase = .fetching o ∧ s.order? o = some q ∧ q.phase = .released) ∨
      (j.phase = .current ∧ s.engine.phase = .offered)) : s.cancellable j = true := by
  rcases or_assoc.2 h with free | ⟨current, offered⟩
  · rw [State.cancellable, State.withdrawable_of free, Bool.true_or]
  · simp [State.cancellable, current, offered]

section
variable {s : State} {num : BitVec 16} {j : Job}

theorem opCancelJob_unknown (unknown : s.job? num.toNat = none) : opCancelJob num s = (s, reply .notCurrent) := by
  rw [opCancelJob, unknown]

theorem opCancelJob_free (named : s.job? num.toNat = some j) (free : s.cancellable j = true) :
    opCancelJob num s = (s.withdrawJob s j, okWith []) := by
  rw [opCancelJob, named]
  exact if_pos free

theorem opCancelJob_bound (named : s.job? num.toNat = some j) (bound : s.cancellable j = false) :
    opCancelJob num s = (s, reply .busy) := by
  rw [opCancelJob, named]
  exact if_neg (Bool.eq_false_iff.1 bound)

end

/-! ### The fetch round (R71, R148) -/

/-- The job of a number is WAITING and its record stands in a crib pocket (R71). -/
structure State.FetchClaim (s : State) (n : Nat) (j : Job) (r : RecNo) (p : Fin 240) : Prop where
  found   : s.job? n = some j
  waiting : j.phase = .waiting
  record  : j.record = some r
  place   : (s.tool r).loc = .crib p

/-- The order list has room and fewer than two jobs are FETCHING (R71, R148). -/
structure State.FetchRoom (s : State) : Prop where
  slot : s.orders.length < 16
  few  : s.fetchingCount < 2

/-- A fetch claim granted: a RELEASED order at the list's tail, and its job FETCHING (R71). -/
def State.fetchGranted (s : State) (n : Nat) (r : RecNo) (p : Fin 240) : State :=
  { s with
    orders := s.orders ++ [{ number := takeNumber s.nextOrder (s.orders.map (·.number)), link := .presetter n
                             record := r, pocket := p, phase := .released }]
    nextOrder := nextNumber (takeNumber s.nextOrder (s.orders.map (·.number)))
    jobs := s.jobs.map fun k =>
      if k.number = n then { k with phase := .fetching (takeNumber s.nextOrder (s.orders.map (·.number))) } else k }

section
variable {s : State} {n : Nat}

theorem State.grantFetch_of_claim {j : Job} {r : RecNo} {p : Fin 240} (claim : s.FetchClaim n j r p)
    (room : s.FetchRoom) : s.grantFetch n = s.fetchGranted n r p := by
  simp only [State.grantFetch, claim.found, claim.record, Location.pocket?_eq_some_iff.2 claim.place]
  rw [if_pos ⟨claim.waiting, room.slot, room.few⟩]
  simp only [State.makeOrder, State.changeJob, State.fetchGranted, beq_iff_eq]

theorem State.grantFetch_of_none (h : ¬ s.FetchRoom ∨ ∀ j r p, ¬ s.FetchClaim n j r p) : s.grantFetch n = s := by
  unfold State.grantFetch
  split
  · rfl
  · next j found =>
    split
    · rfl
    · next r record =>
      split
      · rfl
      · next p place =>
        refine if_neg fun ⟨waiting, slot, few⟩ => ?_
        rcases h with full | unclaimed
        · exact full ⟨slot, few⟩
        · exact unclaimed j r p ⟨found, waiting, record, Location.pocket?_eq_some_iff.1 place⟩

/-- What one step of the round does: it grants the claim of its job, if there is one and room for it. -/
theorem State.grantFetch_cases (s : State) (n : Nat) :
    ((¬ s.FetchRoom ∨ ∀ j r p, ¬ s.FetchClaim n j r p) ∧ s.grantFetch n = s) ∨
      (s.FetchRoom ∧ ∃ r p, s.grantFetch n = s.fetchGranted n r p) := by
  by_cases none : ¬ s.FetchRoom ∨ ∀ j r p, ¬ s.FetchClaim n j r p
  · exact .inl ⟨none, State.grantFetch_of_none none⟩
  · simp only [not_or, not_not, not_forall] at none
    obtain ⟨room, j, r, p, claim⟩ := none
    exact .inr ⟨room, r, p, State.grantFetch_of_claim claim room⟩

theorem State.room_of_grantFetch (room : (s.grantFetch n).FetchRoom) : s.FetchRoom := by
  rcases s.grantFetch_cases n with ⟨-, same⟩ | ⟨before, -⟩
  · rwa [same] at room
  · exact before

theorem State.numbers_grantFetch (s : State) (n : Nat) :
    (s.grantFetch n).jobs.map (·.number) = s.jobs.map (·.number) := by
  rcases s.grantFetch_cases n with ⟨-, same⟩ | ⟨-, r, p, granted⟩
  · rw [same]
  · rw [granted, State.fetchGranted, List.map_map]
    refine List.map_congr_left fun k _ => ?_
    simp only [Function.comp]
    split <;> rfl

/-- A claim that stands after a step of the round stood before it, and is not of the step's own job if one was granted. -/
theorem State.claim_of_grantFetch {k : Job} (mem : k ∈ (s.grantFetch n).jobs)
    (claim : (s.grantFetch n).holdsClaim k = true) :
    k ∈ s.jobs ∧ s.holdsClaim k = true ∧ (k.number = n → s.grantFetch n = s) := by
  rcases s.grantFetch_cases n with ⟨-, same⟩ | ⟨-, r, p, granted⟩
  · rw [same] at mem claim
    exact ⟨mem, claim, fun _ => same⟩
  · rw [granted] at mem claim
    obtain ⟨i, old, rfl⟩ := List.mem_map.1 mem
    by_cases own : i.number = n
    · rw [if_pos own] at claim
      exact absurd (State.holdsClaim_iff.1 claim).1 nofun
    · rw [if_neg own] at claim ⊢
      exact ⟨old, claim, fun e => absurd e own⟩

/-- A step of the round that leaves room leaves its job without a claim. -/
theorem State.no_claim_of_grantFetch (numbers : (s.jobs.map (·.number)).Nodup) (room : (s.grantFetch n).FetchRoom)
    {k : Job} (mem : k ∈ (s.grantFetch n).jobs) (number : k.number = n) :
    (s.grantFetch n).holdsClaim k = false := by
  refine Bool.eq_false_iff.2 fun claim => ?_
  obtain ⟨old, stood, same⟩ := State.claim_of_grantFetch mem claim
  obtain ⟨waiting, r, p, record, place⟩ := State.holdsClaim_iff.1 stood
  have found : s.job? n = some k := by
    cases h : s.job? n with
    | none =>
      have unmet := List.find?_eq_none.1 h k old
      simp [number] at unmet
    | some i =>
      have own : i.number = n := by simpa using List.find?_some h
      rw [eq_of_number_eq numbers (List.mem_of_find?_eq_some h) old (own.trans number.symm)]
  have stood : s.FetchClaim n k r p := ⟨found, waiting, record, place⟩
  have granted := State.grantFetch_of_claim stood (State.room_of_grantFetch room)
  have orders := congrArg (fun t : State => t.orders.length) (granted.symm.trans (same number))
  simp [State.fetchGranted] at orders

/-- The steps of a round keep the jobs' numbers, and while there is room they leave no claim of the jobs they reached. -/
theorem State.foldl_grantFetch_spec (numbers : (s.jobs.map (·.number)).Nodup) (ns : List Nat) :
    (ns.foldl State.grantFetch s).jobs.map (·.number) = s.jobs.map (·.number) ∧
      ((ns.foldl State.grantFetch s).FetchRoom → ∀ k ∈ (ns.foldl State.grantFetch s).jobs, k.number ∈ ns →
        (ns.foldl State.grantFetch s).holdsClaim k = false) := by
  induction ns using List.reverseRecOn with
  | nil => exact ⟨rfl, fun _ _ _ h => nomatch h⟩
  | append_singleton ns n ih =>
    rw [List.foldl_append]
    obtain ⟨same, none⟩ := ih
    refine ⟨(State.numbers_grantFetch _ n).trans same, fun room k mem reached => ?_⟩
    rcases List.mem_append.1 reached with earlier | own
    · refine Bool.eq_false_iff.2 fun claim => ?_
      obtain ⟨old, stood, -⟩ := State.claim_of_grantFetch mem claim
      exact Bool.false_ne_true ((none (State.room_of_grantFetch room) k old earlier).symm.trans stood)
    · exact State.no_claim_of_grantFetch (same ▸ numbers) room mem (List.mem_singleton.1 own)

/-- After a round with room left, no job holds a claim (R148). -/
theorem State.no_claim_of_fetchRound (numbers : (s.jobs.map (·.number)).Nodup) (room : s.fetchRound.FetchRoom) {k : Job}
    (mem : k ∈ s.fetchRound.jobs) : s.fetchRound.holdsClaim k = false := by
  obtain ⟨same, none⟩ := State.foldl_grantFetch_spec numbers (s.jobs.map (·.number))
  have listed : k.number ∈ s.jobs.map (·.number) := same ▸ List.mem_map_of_mem (f := (·.number)) mem
  exact none room k mem listed

end

/-! ### The engine's choice (R75) -/

/-- A job is at the presetter when its record is, or when it is a CALIBRATE job (R75). -/
theorem State.jobAtPresetter_iff {s : State} {j : Job} : s.jobAtPresetter j = true ↔
    (j.record = none ∧ j.kind = .calibrate) ∨ ∃ r, j.record = some r ∧ (s.tool r).loc = .presetter := by
  cases record : j.record <;> simp [State.jobAtPresetter, record]

theorem State.engineChoose_of_busy {s : State} (busy : s.engine.phase ≠ .idle) : s.engineChoose = s := if_neg busy

theorem State.engineChoose_of_none {s : State}
    (unready : ∀ j ∈ s.jobs, (j.phase == .waiting && s.jobAtPresetter j) = false) : s.engineChoose = s := by
  have found : s.jobs.find? (fun j => j.phase == .waiting && s.jobAtPresetter j) = none :=
    List.find?_eq_none.2 fun j mem => Bool.eq_false_iff.1 (unready j mem)
  rw [State.engineChoose, found]
  split <;> rfl

/-- An IDLE engine offers the first job of the queue that is WAITING and at the presetter (R75). -/
theorem State.engineChoose_of_first {s : State} {before after : List Job} {j : Job} (idle : s.engine.phase = .idle)
    (queue : s.jobs = before ++ j :: after)
    (unready : ∀ k ∈ before, (k.phase == .waiting && s.jobAtPresetter k) = false)
    (ready : (j.phase == .waiting && s.jobAtPresetter j) = true) :
    s.engineChoose = { s.changeJob j.number (fun k => { k with phase := .current }) with
      engine := { Engine.idle with phase := .offered } } := by
  have found : s.jobs.find? (fun j => j.phase == .waiting && s.jobAtPresetter j) = some j := by
    rw [List.find?_eq_some_iff_append]
    exact ⟨ready, before, after, queue, fun k mem => by rw [unready k mem]; rfl⟩
  rw [State.engineChoose, if_pos idle, found]

/-- Settles O28: the request's removal is the withdrawal, spelled by the job's phase; the round goes step by step, and
the choice is the queue's first job that is ready. -/
theorem cancelJobRemovesTheJob : Obligations.CancelJobRemovesTheJob := by
  unfold Obligations.CancelJobRemovesTheJob
  intro removed
  have removal (before after : State) (j : Job) : before.withdrawJob after j = removed before after j := by
    cases phase : j.phase with
    | fetching o =>
      have moving : j.phase ≠ .current := by rw [phase]; exact nofun
      rw [State.withdrawJob, State.dropJob_of_not_current moving]
      simp only [removed, State.withdrawFetch, phase, JobPhase.isFetching, Bool.true_or]
      rfl
    | waiting =>
      have waiting : j.phase ≠ .current := by rw [phase]; exact nofun
      rw [State.withdrawJob_of_not_fetching (by rw [phase]; rfl), removalPrompts_dropJob,
        State.dropJob_of_not_current waiting]
      cases record : j.record <;> simp only [removed, phase, record] <;> rfl
    | current =>
      rw [State.withdrawJob_of_not_fetching (by rw [phase]; rfl), removalPrompts_dropJob, State.dropJob_of_current phase]
      cases record : j.record <;> simp only [removed, phase, record] <;> rfl
  refine ⟨fun s c num taken => ?_, removal, fun u pass => rfl, fun u => rfl, fun u n => ?_, fun u numbers => ?_,
    fun u => ?_⟩
  · intro t
    refine ⟨fun unknown => exec_taken taken rfl rfl (opCancelJob_unknown (s := t) unknown), fun j named =>
      ⟨fun free => ?_, fun bound => exec_taken taken rfl rfl ?_⟩⟩
    · rw [← removal]
      exact exec_taken taken rfl rfl (opCancelJob_free (s := t) named (State.cancellable_of free))
    · exact opCancelJob_bound (s := t) named (State.cancellable_eq_false bound)
  · intro claim room o
    have claims (j : Job) (r : RecNo) (p : Fin 240) : u.FetchClaim n j r p ↔ claim j r p :=
      ⟨fun ⟨found, waiting, record, place⟩ => ⟨found, waiting, record, place⟩,
        fun ⟨found, waiting, record, place⟩ => ⟨found, waiting, record, place⟩⟩
    have roomy : u.FetchRoom ↔ room := ⟨fun ⟨slot, few⟩ => ⟨slot, few⟩, fun ⟨slot, few⟩ => ⟨slot, few⟩⟩
    refine ⟨fun j r p held free => State.grantFetch_of_claim ((claims j r p).2 held) (roomy.2 free), fun h => ?_⟩
    exact State.grantFetch_of_none (h.imp (mt roomy.1) fun unclaimed j r p => mt (claims j r p).1 (unclaimed j r p))
  · intro v
    by_cases room : v.FetchRoom
    · refine .inl fun j mem r p waiting record place => ?_
      have unclaimed := State.no_claim_of_fetchRound numbers room mem
      exact Bool.false_ne_true (unclaimed.symm.trans (State.holdsClaim_iff.2 ⟨waiting, r, p, record, place⟩))
    · refine .inr ?_
      by_contra full
      rw [not_or, Nat.not_le, Nat.not_le] at full
      exact room ⟨full.1, full.2⟩
  · intro ready
    have offers (j : Job) : (j.phase == .waiting && u.jobAtPresetter j) = true ↔ ready j := by
      rw [Bool.and_eq_true, beq_iff_eq, State.jobAtPresetter_iff]
    have passes {j : Job} (unready : ¬ ready j) : (j.phase == .waiting && u.jobAtPresetter j) = false :=
      Bool.eq_false_iff.2 (mt (offers j).1 unready)
    refine ⟨State.engineChoose_of_busy, fun unready => State.engineChoose_of_none fun j mem => passes (unready j mem),
      fun before j after idle queue earlier holds => ?_⟩
    rw [State.engineChoose_of_first idle queue (fun k mem => passes (earlier k mem)) ((offers j).2 holds)]
    simp only [State.changeJob, beq_iff_eq]
    rfl

end Sys2Proof.Machine

/-! PROOF. The engine's job asked for, mounted, ended and timed out (R70, R77, R78, R80 to R87). -/

namespace Sys2Proof.Machine

-- One proof after another: side by side their threads need more memory than the checks allow.
set_option Elab.async false

/-! ### The questions (R70, R77, R86, R87) -/

theorem opGetJob_current {s : State} {j : Job} (current : s.currentJob? = some j) (busy : s.engine.phase ≠ .idle) :
    opGetJob s = (s, okWith (currentJobBytes s j)) := by
  rw [opGetJob, current]
  exact if_neg busy

theorem opGetJob_idle {s : State} (idle : s.engine.phase = .idle) : opGetJob s = (s, reply .none) := by
  unfold opGetJob
  split
  · rfl
  · exact if_pos idle

theorem opReadResults_inRange {s : State} {skip count : Byte} (within : skip.toNat ≤ 31) (least : 1 ≤ count.toNat)
    (few : count.toNat ≤ 6) : opReadResults skip count s =
      (s, okWith (b1 ((s.log.reverse.drop skip.toNat).take count.toNat).length ++
        ((s.log.reverse.drop skip.toNat).take count.toNat).flatMap entryBytes)) := if_neg (by omega)

theorem opGetResult_newest {s : State} {e : LogEntry} (newest : s.log.getLast? = some e) :
    opGetResult s = ({ s with unread := false }, okWith (entryBytes e)) := by
  rw [opGetResult, newest]

/-- Settles O29: each question's owning rule on the received state, its bytes by the job's phase and record. -/
theorem jobQuestionsAnswerTheEngine : Obligations.JobQuestionsAnswerTheEngine := by
  intro s c t
  refine ⟨fun taken => exec_taken taken rfl rfl ?_, fun j taken current busy => ?_,
    fun taken idle => exec_taken taken rfl rfl (opGetJob_idle (s := t) idle),
    fun skip count taken within least few =>
      exec_taken taken rfl rfl (opReadResults_inRange (s := t) within least few),
    fun e taken newest => exec_taken taken rfl rfl (opGetResult_newest (s := t) newest)⟩
  · refine Prod.ext rfl (congrArg (fun bytes => okWith (b1 s.jobs.length ++ bytes)) ?_)
    refine congrArg (List.flatMap · s.jobs) (funext fun j => ?_)
    rw [jobBytes]
    cases j.phase <;> rfl
  · intro nominals tag
    refine exec_taken taken rfl rfl ((opGetJob_current (s := t) current busy).trans ?_)
    rw [currentJobBytes, State.jobTag, State.jobNominals]
    cases record : j.record <;> simp only [nominals, tag, record, List.append_assoc] <;> rfl

/-! ### MOUNT (R78) -/

section
variable {s : State} {j : Job} {num : BitVec 16} {tag : Tag}

theorem opMount_mounts (number : s.currentNumbered? num.toNat = some j) (offered : s.engine.phase = .offered)
    (used : tag ≠ 0) (same : tag = s.jobTag j) : opMount num tag s = (s.mounted j, okWith (bPlan j.plan)) := by
  rw [opMount, number]
  dsimp only
  rw [if_neg (not_not.2 offered), if_neg used, if_neg (not_not.2 same)]

theorem opMount_mismatch (number : s.currentNumbered? num.toNat = some j) (offered : s.engine.phase = .offered)
    (used : tag ≠ 0) (other : tag ≠ s.jobTag j) : opMount num tag s = (s, reply .tagMismatch) := by
  rw [opMount, number]
  dsimp only
  rw [if_neg (not_not.2 offered), if_neg used, if_pos other]

theorem State.jobTag_of_gauge (record : j.record = none) : s.jobTag j = s.reference.gaugeTag := by
  rw [State.jobTag, record]

theorem State.jobTag_of_record {n : RecNo} (record : j.record = some n) : s.jobTag j = (s.tool n).tag := by
  rw [State.jobTag, record]

theorem State.mounted_of_gauge (record : j.record = none) :
    s.mounted j = { s with engine := { s.engine with phase := .mounted } } := by
  rw [State.mounted, record]

/-- A mounted record that is not MEASURING yet becomes so, its state kept as the job's prior state (R78). -/
theorem State.mounted_of_record {n : RecNo} (record : j.record = some n) (moves : (s.tool n).state ≠ .measuring) :
    s.mounted j = State.setTool
      { s with
        engine := { s.engine with phase := .mounted }
        jobs := s.jobs.map fun k => if k.number == j.number then { k with prior := some (s.tool n).state } else k }
      n { s.tool n with state := .measuring, version := (s.tool n).version + 1 } := by
  rw [State.mounted, record]
  exact State.changeTool_of_state moves.symm

end

/-- Settles O30: the request passes every check, and the mount is spelled by the job's record. -/
theorem mountMakesTheRecordMeasuring : Obligations.MountMakesTheRecordMeasuring := by
  intro s c num j tag taken current number offered used t mounted
  have busy : t.engine.phase ≠ .idle := fun idle => nomatch idle.symm.trans offered
  have numbered : t.currentNumbered? num.toNat = some j := State.currentNumbered?_of_current busy current number
  have mounts (same : tag = t.jobTag j) := opMount_mounts (s := t) numbered offered used same
  refine ⟨fun n record same moves => exec_taken taken rfl rfl ?_, fun record same => exec_taken taken rfl rfl ?_,
    fun n record other => exec_taken taken rfl rfl ?_⟩
  · refine (mounts ?_).trans ?_
    · rw [State.jobTag_of_record record]
      exact same.symm
    · rw [State.mounted_of_record (s := t) record moves]
      rfl
  · refine (mounts ?_).trans ?_
    · rw [State.jobTag_of_gauge record]
      exact same.symm
    · rw [State.mounted_of_gauge record]
      rfl
  · refine opMount_mismatch (s := t) numbered offered used ?_
    rw [State.jobTag_of_record record]
    exact Ne.symm other

/-! ### The end of a job ABORTED or NO_EDGE (R83, R84) -/

/-- The state that a record leaves MEASURING for when its job ends ABORTED or NO_EDGE (R84). -/
def Job.unmeasuredState (j : Job) (recalled : Bool) : RecState :=
  if recalled then .quarantine else if j.kind = .verify then j.prior.getD .presetDue else .presetDue

theorem unmeasured_of_measuring {j : Job} {r : ToolRecord} (measuring : r.state = .measuring) :
    unmeasured j r = { r with state := j.unmeasuredState r.recalled } := by
  rw [unmeasured, if_pos measuring, Job.unmeasuredState]
  cases j.kind <;> rfl

theorem Job.unmeasuredState_ne_measuring {j : Job} (prior : j.prior ≠ some .measuring) (recalled : Bool) :
    j.unmeasuredState recalled ≠ .measuring := by
  unfold Job.unmeasuredState
  cases recalled with
  | true => exact nofun
  | false =>
    rw [if_neg Bool.false_ne_true]
    split
    · cases before : j.prior with
      | none => exact nofun
      | some st =>
        rintro rfl
        exact prior before
    · exact nofun

/-- The end of a job moves a MEASURING record, its version one higher, and no other (R84). -/
theorem State.changeTool_unmeasured {s : State} {j : Job} {n : RecNo} (prior : j.prior ≠ some .measuring) :
    s.changeTool n (unmeasured j) = s.setTool n
      (if (s.tool n).state = .measuring
        then { s.tool n with state := j.unmeasuredState (s.tool n).recalled, version := (s.tool n).version + 1 }
        else s.tool n) := by
  by_cases measuring : (s.tool n).state = .measuring
  · have moves : (unmeasured j (s.tool n)).state ≠ (s.tool n).state := by
      rw [unmeasured_of_measuring measuring, measuring]
      exact Job.unmeasuredState_ne_measuring prior _
    rw [State.changeTool_of_state moves, if_pos measuring, unmeasured_of_measuring measuring]
  · have same : unmeasured j (s.tool n) = s.tool n := if_neg measuring
    rw [State.changeTool_of_same same, if_neg measuring, s.setTool_self]

theorem unmeasured_tag (j : Job) (r : ToolRecord) : (unmeasured j r).tag = r.tag := by
  unfold unmeasured
  split <;> rfl

/-- The result entry of a job stopped after its record's change is the one before it (R85). -/
theorem State.endEntry_changeTool_unmeasured {s : State} {j : Job} {n : RecNo} (record : j.record = some n)
    (status : Status) (length radius runout : Option Nat) :
    (s.changeTool n (unmeasured j)).endEntry j status length radius runout =
      s.endEntry j status length radius runout := by
  rw [State.endEntry, State.jobTag_of_record record, State.tool_changeTool_self, ToolRecord.change_tag, unmeasured_tag,
    State.endEntry, State.jobTag_of_record record]
  rfl

/-- The ring of 32 entries loses its oldest when it is full (R85). -/
theorem State.appendLog_eq (s : State) (e : LogEntry) : s.appendLog e =
    { s with log := (s.log ++ [e]).drop (s.log.length + 1 - 32), unread := true } := by
  rw [State.appendLog, List.length_append, List.length_singleton]

/-- The current job's end after its record's: the entry, the removal with the check, and the pass that a READY record
left free prompts (R69, R84). -/
theorem State.concludeJob_of_current {s : State} {j : Job} (current : j.phase = .current) (status : Status)
    (length radius runout : Option Nat) : s.concludeJob j status length radius runout =
      (State.autoCalCheck (State.applyParked { s with
        log := (s.log ++ [s.endEntry j status length radius runout]).drop (s.log.length + 1 - 32), unread := true
        jobs := s.jobs.filter fun k => k.number != j.number
        engine := Engine.idle })).settle
        (j.record.any fun n => (s.tool n).state == .ready && (s.tool n).loc.isCrib &&
          (s.jobs.filter fun k => k.number != j.number).all fun k => k.record != some n) := by
  have unclaimed : (j.phase == .waiting) = false := by rw [current]; rfl
  rw [State.concludeJob, removalPrompts_dropJob, State.dropJob_of_current current, State.appendLog_eq]
  simp only [unclaimed, Bool.false_and, Bool.false_or]
  rfl

theorem State.phase_of_currentJob? {s : State} {j : Job} (current : s.currentJob? = some j) : j.phase = .current := by
  simpa using List.find?_some current

theorem opAbortJob_current {s : State} {j : Job} {num : BitVec 16} (number : s.currentNumbered? num.toNat = some j) :
    opAbortJob num s = (s.stopJob j .aborted, okWith []) := by
  rw [opAbortJob, number]

theorem State.currentNumbered?_eq_none {s : State} {n : Nat}
    (h : s.engine.phase = .idle ∨ ∀ j, s.currentJob? = some j → n ≠ j.number) : s.currentNumbered? n = none := by
  unfold State.currentNumbered?
  split
  · rfl
  · next busy =>
    split
    · rfl
    · next j current => exact if_neg (Ne.symm (h.resolve_left busy j current))

theorem opAbortJob_notCurrent {s : State} {num : BitVec 16} (number : s.currentNumbered? num.toNat = none) :
    opAbortJob num s = (s, reply .notCurrent) := by
  rw [opAbortJob, number]

/-- Settles O32: the abort is the job's stop, and the stop is the record's change before the job's end. -/
theorem abortJobEndsTheJob : Obligations.AbortJobEndsTheJob := by
  unfold Obligations.AbortJobEndsTheJob
  intro ended
  have stopped (s : State) (j : Job) (status : Status) (current : j.phase = .current)
      (prior : j.prior ≠ some .measuring) : s.stopJob j status = ended s j status := by
    rw [State.stopJob]
    cases record : j.record with
    | none =>
      dsimp only
      rw [State.concludeJob_of_current current]
      simp only [ended, record, State.endEntry, State.jobTag]
      rfl
    | some n =>
      dsimp only
      rw [State.concludeJob_of_current current, State.endEntry_changeTool_unmeasured record,
        State.changeTool_unmeasured prior]
      simp only [ended, record, State.endEntry, State.jobTag, Job.unmeasuredState]
      rfl
  refine ⟨fun s c num taken => ?_, stopped⟩
  intro t
  refine ⟨fun j current number busy prior => ?_, fun other => exec_taken taken rfl rfl ?_⟩
  · rw [← stopped t j .aborted (State.phase_of_currentJob? current) prior]
    have numbered : t.currentNumbered? num.toNat = some j := State.currentNumbered?_of_current busy current number
    exact exec_taken taken rfl rfl (opAbortJob_current numbered)
  · exact opAbortJob_notCurrent (State.currentNumbered?_eq_none (s := t) other)

/-! ### The station timeout (R81) -/

section
variable {s : State} {j : Job} {left : Nat}

theorem State.stationExpires_of_samples (current : s.currentJob? = some j) (armed : s.engine.phase = .armed left)
    (samples : s.capture.buffer.samples ≠ []) : s.stationExpires = s.completeStation j true := by
  rw [State.stationExpires, current, armed]
  exact if_neg samples

theorem State.stationExpires_of_none (current : s.currentJob? = some j) (armed : s.engine.phase = .armed left)
    (none : s.capture.buffer.samples = []) : s.stationExpires =
      State.stopJob { s with engine := { s.engine with flags := s.engine.flags.addStation s.capture.buffer } } j
        .noEdge := by
  rw [State.stationExpires, current]
  dsimp only
  rw [if_neg (by rw [armed]; exact Bool.false_ne_true), if_pos none]

/-- The engine with a station added that ended short of samples (R80, R81). -/
def Engine.withReducedStation (e : Engine) (b : StationBuffer) : Engine :=
  { e.withStation b with flags := { (e.withStation b).flags with reducedAvg := true } }

theorem State.completeStation_reduced (s : State) (j : Job) : s.completeStation j true =
    if j.plan.stations ≤ s.engine.nextStation + 1
    then State.finishJob { s with engine := s.engine.withReducedStation s.capture.buffer } j
    else { s with engine := s.engine.withReducedStation s.capture.buffer } := by
  simp only [State.completeStation, Engine.withReducedStation, Engine.withStation, JobFlags.addStation, Bool.or_true]

end

/-- Settles O33: with samples the station completes reduced, and without one the job stops. -/
theorem stationTimeoutEndsTheStation : Obligations.StationTimeoutEndsTheStation := by
  intro s j left up current armed b flags complete
  have run : exec .stationTimeout s = .next s.stationExpires.judgeAttention := State.event_up _ _ up
  have completed (samples : b.samples ≠ []) : exec .stationTimeout s = .next (State.judgeAttention
      (if j.plan.stations ≤ s.engine.nextStation + 1 then complete.finishJob j else complete)) := by
    rw [run, State.stationExpires_of_samples current armed samples, State.completeStation_reduced]
    rfl
  refine ⟨fun samples more => ?_, fun samples last => ⟨fun n record => ?_, fun record => ?_⟩, fun none => ?_⟩
  · rw [completed samples, if_neg (Nat.not_le.2 more)]
  · rw [completed samples, if_pos last, State.finishJob_of_record record]
  · rw [completed samples, if_pos last, State.finishJob_of_gauge record]
  · rw [run, State.stationExpires_of_none current armed none]
    rfl

end Sys2Proof.Machine

/-! PROOF. The offset computation's arithmetic: the peaks of the station means, the mean and the conversion (R92 to
R94). -/

namespace Sys2Proof.Machine

-- One proof after another: side by side their threads need more memory than the checks allow.
set_option Elab.async false

/-! ### Peaks (R93) -/

/-- An entry that no other exceeds is the greatest. -/
theorem greatest_eq {l : List Int} {p : Int} (peak : p ∈ l ∧ ∀ m ∈ l, m ≤ p) : greatest l = p := by
  obtain ⟨mem, above⟩ := peak
  obtain ⟨attained, bound⟩ := greatest_spec l (List.ne_nil_of_mem mem)
  exact le_antisymm (above _ attained) (bound p mem)

/-- An entry that exceeds no other is the least. -/
theorem least_eq {l : List Int} {p : Int} (low : p ∈ l ∧ ∀ m ∈ l, p ≤ m) : least l = p := by
  obtain ⟨mem, below⟩ := low
  obtain ⟨attained, bound⟩ := least_spec l (List.ne_nil_of_mem mem)
  exact le_antisymm (bound p mem) (below _ attained)

/-! ### The station mean (R92) -/

/-- The mean times the count lies within half a count of the sum, the half above included. -/
theorem stationMean_bounds {vs : List (BitVec 32)} (values : vs ≠ []) :
    2 * (vs.length : Int) * stationMean vs ≤ 2 * (vs.map BitVec.toInt).sum + vs.length ∧
      2 * (vs.map BitVec.toInt).sum + vs.length < 2 * (vs.length : Int) * (stationMean vs + 1) := by
  have pos : 0 < 2 * (vs.length : Int) := by have := List.length_pos_iff.2 values; omega
  exact ⟨Int.mul_ediv_self_le pos.ne', Int.lt_mul_ediv_self_add pos |>.trans_eq (by rw [mul_add, mul_one]; rfl)⟩

/-- Settles O34: the two bounds of the quotient; were every value above the mean, or every one below it, the sum would
break one of them. -/
theorem stationMeanRoundsHalfUp : Obligations.StationMeanRoundsHalfUp := by
  intro vs values S k M
  obtain ⟨lower, upper⟩ : 2 * k * M ≤ 2 * S + k ∧ 2 * S + k < 2 * k * (M + 1) := stationMean_bounds values
  have pos : 0 < k := by have := List.length_pos_iff.2 values; omega
  refine ⟨⟨lower, upper⟩, ?_, ?_⟩
  · by_contra above
    have sum : k * (M + 1) ≤ S := by
      simpa [k] using List.card_nsmul_le_sum (vs.map BitVec.toInt) (M + 1)
        (List.forall_mem_map.2 fun v listed => Int.add_one_le_of_lt (not_le.1 fun le => above ⟨v, listed, le⟩))
    linarith
  · by_contra below
    have sum : S ≤ k * (M - 1) := by
      simpa [k] using List.sum_le_card_nsmul (vs.map BitVec.toInt) (M - 1)
        (List.forall_mem_map.2 fun v listed => Int.le_sub_one_of_lt (not_le.1 fun le => below ⟨v, listed, le⟩))
    linarith

/-! ### The conversion (R94) -/

/-- Settles O35: by the sign of the product. -/
theorem conversionRoundsHalfAway : Obligations.ConversionRoundsHalfAway := by
  intro counts scale P v
  have value : v = P.sign * ((P.natAbs + 50) / 100 : Nat) := rfl
  clear_value P v
  rcases lt_trichotomy P 0 with negative | zero | positive
  · rw [Int.sign_eq_neg_one_of_neg negative] at value
    omega
  · rw [Int.sign_eq_zero_iff_zero.2 zero] at value
    omega
  · rw [Int.sign_eq_one_of_pos positive] at value
    omega

end Sys2Proof.Machine

/-! PROOF. The end of a finished calibration (R107, R116 to R120). -/

namespace Sys2Proof.Machine

-- One proof after another: side by side their threads need more memory than the checks allow.
set_option Elab.async false

/-! ### The drift check (R116) -/

theorem driftRejected_drifts_iff {ref : Reference} {z x : Int} {limit : Nat} :
    driftRejected limit (ref.drifts z x) = true ↔
      ref.present = true ∧ (limit < (z - ref.zRef).natAbs ∨ limit < (x - ref.xRef).natAbs) := by
  unfold Reference.drifts
  cases ref.present <;> simp [driftRejected]

theorem Reference.complete_of_rejected {ref : Reference} {z x : Int} {hall : Option Nat} {t : Settings}
    (present : ref.present = true) (rejected : driftRejected t.driftLimit (ref.drifts z x) = true) :
    ref.complete z x hall t =
      { ref with lastOutcome := .driftRejected, driftZ := some (z - ref.zRef), driftX := some (x - ref.xRef) } := by
  rw [Reference.complete, if_pos rejected, Reference.drifts, if_pos present]
  rfl

theorem Reference.complete_of_accepted {ref : Reference} {z x : Int} {hall : Option Nat} {t : Settings}
    (accepted : ¬ driftRejected t.driftLimit (ref.drifts z x) = true) :
    ref.complete z x hall t = { ref with
      present := true, zRef := z, xRef := x, lRef := ref.gaugeLen, rRef := ref.gaugeRad, calTime := hall
      validUntil := hall.map fun time => min 4294967295 (time + t.calInterval * 3600)
      timePending := hall.isNone, pendingAge := 0, lastOutcome := .accepted
      driftZ := if ref.present then some (z - ref.zRef) else none
      driftX := if ref.present then some (x - ref.xRef) else none } := by
  rw [Reference.complete, if_neg accepted, Reference.drifts]
  cases ref.present <;> rfl

/-! ### The end of the job (R84, R120) -/

/-- The current job's end when it names no record: the entry, the removal with the check, and no pass (R69, R84). -/
theorem State.concludeJob_of_gauge {s : State} {j : Job} (current : j.phase = .current) (gauge : j.record = none)
    (status : Status) (length radius runout : Option Nat) : s.concludeJob j status length radius runout =
      (State.autoCalCheck (State.applyParked { s with
        log := (s.log ++ [s.endEntry j status length radius runout]).drop (s.log.length + 1 - 32), unread := true
        jobs := s.jobs.filter fun k => k.number != j.number
        engine := Engine.idle })).settle false := by
  rw [State.concludeJob_of_current current, gauge]
  rfl

/-- The result entry of a job that names no record is the gauge's (R120). -/
theorem State.endEntry_of_gauge {s : State} {j : Job} (kind : j.kind = .calibrate) (gauge : j.record = none)
    (status : Status) (length radius runout : Option Nat) : s.endEntry j status length radius runout =
      { job := j.number, kind := .calibrate, record := none, tag := s.reference.gaugeTag, status := status
        flags := s.engine.flags, stations := s.engine.results.length, length := length, radius := radius
        runout := runout, hallTime := s.hallTime? } := by
  rw [State.endEntry, State.jobTag_of_gauge gauge, kind, gauge]

/-- Settles O37: the drift check decides between the two references, and the job ends with either. -/
theorem calibrationUpdatesTheReference : Obligations.CalibrationUpdatesTheReference := by
  intro s j z x kind gauge current zs xs zPeaks xPeaks ref far done
  have met : driftRejected s.settings.driftLimit (s.reference.drifts z x) = true ↔ ref.present = true ∧ far :=
    driftRejected_drifts_iff
  have zPeak_eq : zPeak s.engine.results = z := greatest_eq zPeaks
  have xPeak_eq : xPeak s.engine.results = x := greatest_eq xPeaks
  refine ⟨fun present distant => ?_, fun near => ?_⟩
  · have rejected := met.2 ⟨present, distant⟩
    rw [State.calibrateJob, zPeak_eq, xPeak_eq, if_pos rejected,
      State.concludeJob_of_gauge current gauge, State.endEntry_of_gauge kind gauge,
      Reference.complete_of_rejected present rejected]
    rfl
  · have accepted : ¬ driftRejected s.settings.driftLimit (s.reference.drifts z x) = true := by
      rw [met]
      rintro ⟨present, distant⟩
      exact near.elim (fun absent => nomatch absent.symm.trans present) (fun close => close distant)
    rw [State.calibrateJob, zPeak_eq, xPeak_eq, if_neg accepted,
      State.concludeJob_of_gauge current gauge, State.endEntry_of_gauge kind gauge,
      Reference.complete_of_accepted accepted]
    simp only [done, State.hallTime?]
    cases s.hall.set <;> rfl

end Sys2Proof.Machine

/-! PROOF. The computation of a PRESET or VERIFY job: the status of what is measured, the record's end, and the end of
the job (R95 to R106). -/

namespace Sys2Proof.Machine

-- One proof after another: side by side their threads need more memory than the checks allow.
set_option Elab.async false

/-! ### The results (R95 to R98) -/

theorem Features.hasLength_eq (f : Features) : f.hasLength = (f != .radius) := by cases f <;> rfl

theorem Features.hasRadius_eq (f : Features) : f.hasRadius = (f != .length) := by cases f <;> rfl

/-- The reference that is not stale is present (R113). -/
theorem State.present_of_not_stale {s : State} (fresh : ¬ s.stale = true) : s.reference.present = true :=
  (Bool.not_eq_false _).mp fun absent => fresh (s.stale_iff.2 (.inl absent))

/-- A value brought into its range is another exactly when it lay outside (R97). -/
theorem clampLength_bne_iff {hi : Nat} {v : Int} : ((clampLength hi v : Int) != v) = true ↔ v < 0 ∨ (hi : Int) < v := by
  rw [bne_iff_ne, ne_eq, clampLength_eq_self_iff]
  omega

section
variable (ref : Reference) (t : Settings) (f : Features) (rs : List StationResult)

theorem measured_length : (measured ref t f rs).length =
    if ref.present && f.hasLength then some (clampLength maxLength (rawLength ref t.zScale rs)) else none := by
  unfold measured
  cases ref.present <;> rfl

theorem measured_radius : (measured ref t f rs).radius =
    if ref.present && f.hasRadius then some (clampLength maxRadius (rawRadius ref t.xScale rs)) else none := by
  unfold measured
  cases ref.present <;> rfl

theorem measured_runout : (measured ref t f rs).runout =
    if ref.present && f.hasRadius then some (clampLength 65535 (rawRunout t.xScale rs)) else none := by
  unfold measured
  cases ref.present <;> rfl

end

/-! ### The status (R99 to R101) -/

section
variable {formed : Bool} {v : Nat}

theorem overRunout_iff {limit : Nat} :
    overRunout (if formed then some v else none) limit = true ↔ formed = true ∧ limit < v := by
  cases formed <;> simp [overRunout]

theorem outOfTolerance_iff {nominal tolerance : Nat} :
    outOfTolerance (if formed then some v else none) nominal tolerance = true ↔
      formed = true ∧ tolerance < ((v : Int) - nominal).natAbs := by
  cases formed <;> simp [outOfTolerance]

theorem wornOut_iff {origin : Origin} {r : ToolRecord} :
    wornOut origin (if formed then some v else none) r = true ↔ origin = .returned ∧ formed = true ∧
      r.presetLen.any (fun (prev : Nat) => decide ((r.wearLimit : Int) < (prev : Int) - v)) = true := by
  cases formed <;> cases before : r.presetLen <;> simp [wornOut, before]

end

theorem measured_saturated_iff {ref : Reference} {t : Settings} {f : Features} {rs : List StationResult}
    (present : ref.present = true) : (measured ref t f rs).saturated = true ↔
      (f.hasLength = true ∧ (rawLength ref t.zScale rs < 0 ∨ 9999999 < rawLength ref t.zScale rs)) ∨
      (f.hasRadius = true ∧ (rawRadius ref t.xScale rs < 0 ∨ 1999999 < rawRadius ref t.xScale rs)) := by
  rw [measured, if_pos present]
  simp only [Bool.or_eq_true, Bool.and_eq_true, clampLength_bne_iff]
  rfl

/-- The status against a reference that is not stale: the first that applies (R99). -/
theorem judgeStatus_measured {ref : Reference} (present : ref.present = true) (t : Settings) (f : Features)
    (rs : List StationResult) (origin : Origin) (r : ToolRecord) :
    let l := rawLength ref t.zScale rs
    let d := rawRadius ref t.xScale rs
    let L := clampLength maxLength l
    judgeStatus false (measured ref t f rs) origin r =
      if (f.hasLength = true ∧ (l < 0 ∨ 9999999 < l)) ∨ (f.hasRadius = true ∧ (d < 0 ∨ 1999999 < d)) then .outOfRange
      else if f.hasRadius = true ∧ r.runoutLimit < clampLength 65535 (rawRunout t.xScale rs) then .runout
      else if (f.hasLength = true ∧ r.lenTol < ((L : Int) - r.nomLen).natAbs) ∨
          (f.hasRadius = true ∧ r.radTol < ((clampLength maxRadius d : Int) - r.nomRad).natAbs) then .outTol
      else if origin = .returned ∧ f.hasLength = true ∧
          r.presetLen.any (fun (prev : Nat) => decide ((r.wearLimit : Int) < (prev : Int) - L)) = true then .wearLimit
      else .good := by
  rw [judgeStatus, if_neg Bool.false_ne_true, measured_length, measured_radius, measured_runout, present]
  refine if_congr (measured_saturated_iff present) rfl (if_congr overRunout_iff rfl (if_congr ?_ rfl
    (if_congr wornOut_iff rfl rfl)))
  rw [Bool.or_eq_true, outOfTolerance_iff, outOfTolerance_iff]
  rfl

/-! ### The record's end (R102 to R105) -/

/-- The record after its job's computation. -/
def ToolRecord.computed (r : ToolRecord) (j : Job) (m : Measured) (status : Status) (hall : Option Nat) : ToolRecord :=
  match j.kind with
  | .preset => presetEnd r j m status hall
  | .verify => verifyEnd r j status
  | .calibrate => r

/-- The state that a job's computation leaves its record in. -/
def Job.computedState (j : Job) (status : Status) (recalled covered : Bool) : RecState :=
  if recalled then .quarantine
  else if j.kind = .verify then j.prior.getD .presetDue
  else if status = .good then (if covered then .ready else .presetDue)
  else if status = .calStale then .presetDue
  else .quarantine

/-- A job that measures a record: a PRESET job, or a VERIFY job with the state its record had before (R78). -/
def Job.MeasuresTool (j : Job) : Prop :=
  j.kind = .preset ∨ (j.kind = .verify ∧ ∃ st, j.prior = some st ∧ st ≠ .measuring)

theorem Job.computedState_ne_measuring {j : Job} (tool : j.MeasuresTool) (status : Status) (recalled covered : Bool) :
    j.computedState status recalled covered ≠ .measuring := by
  unfold Job.computedState
  rcases tool with preset | ⟨verify, st, prior, moved⟩
  · rw [preset]
    split_ifs <;> simp_all
  · rw [if_pos verify, prior]
    cases recalled
    · exact moved
    · exact nofun

theorem ToolRecord.computed_eq {j : Job} (tool : j.MeasuresTool) (r : ToolRecord) (m : Measured) (status : Status)
    (hall : Option Nat) :
    let written := r.writePreset j m hall
    let good := decide (j.kind = .preset ∧ status = .good)
    r.computed j m status hall = { r with
      state := j.computedState status r.recalled written.covered
      presetLen := if good then written.presetLen else r.presetLen
      presetRad := if good then written.presetRad else r.presetRad
      presetJob := if good then some j.number else r.presetJob
      presetTime := if good then hall else r.presetTime
      lastVerdict := status.verdict } := by
  unfold ToolRecord.computed Job.computedState
  rcases tool with preset | ⟨verify, st, prior, -⟩
  · rw [preset]
    by_cases good : status = .good
    · rw [good]
      rfl
    · simp [presetEnd, good]
  · rw [verify]
    simp [verifyEnd, prior]

theorem ToolRecord.covered_eq (r : ToolRecord) : r.covered =
    decide ((r.plan.features ≠ .radius → r.presetLen ≠ none) ∧ (r.plan.features ≠ .length → r.presetRad ≠ none)) := by
  rw [Bool.eq_iff_iff, decide_eq_true_iff, ← Bool.not_eq_false, ToolRecord.covered_eq_false_iff]
  tauto

theorem leavesIncomplete_eq (r : ToolRecord) (j : Job) (m : Measured) (status : Status) (hall : Option Nat) :
    leavesIncomplete r j m status hall =
      (decide (j.kind = .preset ∧ status = .good) && !r.recalled && !(r.writePreset j m hall).covered) := by
  rw [leavesIncomplete, Bool.decide_and]
  rfl

/-! ### The end of the job (R84, R98) -/

/-- The current job's end once its record, at the presetter, and its flags are written: the entry, the removal with the
check, and no pass (R69, R84). -/
theorem State.concludeJob_written (s : State) {j : Job} {n : RecNo} {r : ToolRecord} (current : j.phase = .current)
    (record : j.record = some n) (place : r.loc = .presetter) (f : JobFlags) (status : Status)
    (length radius runout : Option Nat) :
    State.concludeJob { s.setTool n r with engine := { s.engine with flags := f } } j status length radius runout =
      (State.autoCalCheck (State.applyParked { s.setTool n r with
        log := (s.log ++ [{ s.endEntry j status length radius runout with tag := r.tag, flags := f }]).drop
          (s.log.length + 1 - 32)
        unread := true
        jobs := s.jobs.filter fun k => k.number != j.number
        engine := Engine.idle })).settle false := by
  have written : State.tool { s.setTool n r with engine := { s.engine with flags := f } } n = r :=
    s.tool_setTool_self n r
  have outside : r.loc.isCrib = false := by rw [place]; rfl
  rw [State.concludeJob_of_current current, record, Option.any_some, written, outside, Bool.and_false, Bool.false_and,
    State.endEntry, State.jobTag_of_record record, written]
  rfl

/-- The auto-calibrate check reaches nothing but the measurement queue and its numbers (R114). -/
theorem State.autoCalCheck_eq (s : State) :
    s.autoCalCheck = { s with jobs := s.autoCalCheck.jobs, nextJob := s.autoCalCheck.nextJob } := by
  unfold State.autoCalCheck
  split <;> rfl

/-- The result entry of a computed job (R85, R103, R106). -/
def State.computedEntry (s : State) (j : Job) (n : RecNo) (m : Measured) (status : Status) : LogEntry :=
  { s.endEntry j status m.length m.radius m.runout with
    flags := { s.engine.flags with
      incomplete := s.engine.flags.incomplete || leavesIncomplete (s.tool n) j m status s.hallTime? } }

/-- The computation of a current job whose record is MEASURING at the presetter, from its results and their status. -/
theorem State.computeJob_eq {s : State} {j : Job} {n : RecNo} (record : j.record = some n) (current : j.phase = .current)
    (tool : j.MeasuresTool) (measuring : (s.tool n).state = .measuring) (place : (s.tool n).loc = .presetter) :
    let m := measured s.reference s.settings j.plan.features s.engine.results
    let status := judgeStatus s.stale m j.origin (s.tool n)
    let asked := if s.stale then s.autoCalCheck else s
    s.computeJob j n = (State.autoCalCheck (State.applyParked { asked.setTool n
        { (s.tool n).computed j m status s.hallTime? with version := (s.tool n).version + 1 } with
      log := (s.log ++ [s.computedEntry j n m status]).drop (s.log.length + 1 - 32), unread := true
      jobs := asked.jobs.filter fun k => k.number != j.number
      engine := Engine.idle })).settle false := by
  intro m status asked
  obtain ⟨jobs, next, frame⟩ : ∃ jobs next, asked = { s with jobs := jobs, nextJob := next } := by
    by_cases stale : s.stale = true
    · exact ⟨_, _, (if_pos stale).trans s.autoCalCheck_eq⟩
    · exact ⟨_, _, if_neg stale⟩
  have computed : s.computeJob j n = State.concludeJob
      { asked.changeTool n (fun r => r.computed j m status s.hallTime?) with
        engine := { asked.engine with flags := { asked.engine.flags with
          incomplete := asked.engine.flags.incomplete || leavesIncomplete (s.tool n) j m status s.hallTime? } } }
      j status m.length m.radius m.runout := rfl
  have same : asked.tool n = s.tool n := by rw [frame]; rfl
  have told := ToolRecord.computed_eq tool (s.tool n) m status s.hallTime?
  have moves : ((s.tool n).computed j m status s.hallTime?).state ≠ (s.tool n).state := by
    rw [told, measuring]
    exact Job.computedState_ne_measuring tool _ _ _
  let written := { (s.tool n).computed j m status s.hallTime? with version := (s.tool n).version + 1 }
  have stays : written.loc = .presetter := by
    simp only [written, told]
    exact place
  have tagged : written.tag = (s.tool n).tag := by simp only [written, told]
  rw [computed, State.changeTool_of_state (by rw [same]; exact moves), same,
    State.concludeJob_written asked current record stays, State.computedEntry, State.endEntry, State.endEntry,
    State.jobTag_of_record record, State.jobTag_of_record record, same, tagged, frame]
  rfl

/-- Settles O36: the peaks give the results, the results the status, and both the record's end and the entry. -/
theorem presetResultReachesTheRecord : Obligations.PresetResultReachesTheRecord := by
  intro s j n zpk xpk xlow record current kind measuring place zs xs zPeaks xPeaks xLows r ref hasL hasR l d L R U length
    radius runout hall status verdict newLen newRad covered good told entry asked
  let m := measured s.reference s.settings j.plan.features s.engine.results
  have hasLength : j.plan.features.hasLength = hasL := Features.hasLength_eq _
  have hasRadius : j.plan.features.hasRadius = hasR := Features.hasRadius_eq _
  have xPeak_eq : xPeak s.engine.results = xpk := greatest_eq xPeaks
  have rawLen : rawLength s.reference s.settings.zScale s.engine.results = l := by
    rw [rawLength, show zPeak s.engine.results = zpk from greatest_eq zPeaks]
  have rawRad : rawRadius s.reference s.settings.xScale s.engine.results = d := by
    rw [rawRadius, xPeak_eq]
  have rawRun : rawRunout s.settings.xScale s.engine.results = convert (xpk - xlow) s.settings.xScale := by
    rw [rawRunout, xPeak_eq, show xLow s.engine.results = xlow from least_eq xLows]
  have lengths : m.length = length := by
    rw [measured_length, hasLength, rawLen]
    rfl
  have radii : m.radius = radius := by
    rw [measured_radius, hasRadius, rawRad]
    rfl
  have runouts : m.runout = runout := by
    rw [measured_runout, hasRadius, rawRun]
    rfl
  have judged : judgeStatus s.stale m j.origin r = status := by
    refine ite_congr rfl (fun _ => rfl) fun fresh => ?_
    refine (judgeStatus_measured (State.present_of_not_stale fresh) _ _ _ _ _).trans ?_
    rw [hasLength, hasRadius, rawLen, rawRad, rawRun]
    rfl
  have writtenLen : (r.writePreset j m hall).presetLen = newLen := by
    rw [ToolRecord.writePreset, lengths, hasLength]
  have writtenRad : (r.writePreset j m hall).presetRad = newRad := by
    rw [ToolRecord.writePreset, radii, hasRadius]
  have covers : (r.writePreset j m hall).covered = covered := by
    rw [ToolRecord.covered_eq, writtenLen, writtenRad]
    rfl
  have verdicts : status.verdict = verdict := by
    clear_value status
    cases status <;> rfl
  have incompletes : leavesIncomplete r j m status hall = (good && !r.recalled && !covered) := by
    rw [leavesIncomplete_eq, covers]
  have entries : s.computedEntry j n m status = entry := by
    rw [State.computedEntry, State.endEntry, State.jobTag_of_record record, record, lengths, radii, runouts,
      show leavesIncomplete (s.tool n) j m status s.hallTime? = _ from incompletes]
    rfl
  have tells : { r.computed j m status hall with version := r.version + 1 } = told := by
    rw [ToolRecord.computed_eq kind, writtenLen, writtenRad, covers, verdicts]
    rfl
  rw [State.computeJob_eq record current kind measuring place, judged, entries, ← tells]
  rfl

end Sys2Proof.Machine

/-! PROOF. The reference unit's requests: SET_GAUGE, READ_REFERENCE and CLEAR_REFERENCE (R110 to R112). -/

namespace Sys2Proof.Machine

-- One proof after another: side by side their threads need more memory than the checks allow.
set_option Elab.async false

/-! ### SET_GAUGE (R110) -/

theorem gaugeClamped_eq_false_iff {l r : BitVec 32} {st sa : Byte} : gaugeClamped l r st sa = false ↔
    (0 ≤ l.toInt ∧ l.toInt ≤ 9999999) ∧ (0 ≤ r.toInt ∧ r.toInt ≤ 1999999) ∧ (1 ≤ st.toNat ∧ st.toNat ≤ 8) ∧
      (sa.toNat = 1 ∨ sa.toNat = 2 ∨ sa.toNat = 4 ∨ sa.toNat = 8) := by
  simp only [gaugeClamped, Bool.or_eq_false_iff, bne_eq_false_iff_eq, clampLength_eq_self_iff, clamp_eq_self_iff,
    rangeSamples_eq_self_iff, maxLength, maxRadius]
  omega

/-- The answer is OK exactly when every value lies in its range (R4). -/
theorem okOrClamped_of_iff {clamped : Bool} {inRange : Prop} [Decidable inRange] (h : clamped = false ↔ inRange)
    (bytes : List Byte) :
    okOrClamped clamped bytes = { code := if inRange then .ok else .okClamped, results := bytes } := by
  cases clamped with
  | false => rw [if_pos (h.1 rfl)]; rfl
  | true => rw [if_neg (mt h.2 nofun)]; rfl

theorem opSetGauge_free {s : State} (free : s.hasCalibrate = false) (tag : Tag) (l r : BitVec 32) (st sa : Byte) :
    opSetGauge tag l r st sa s =
      ((State.autoCalCheck { s with reference := s.reference.setGauge tag l r st sa }).settle false,
        okOrClamped (gaugeClamped l r st sa) []) := if_neg (Bool.eq_false_iff.1 free)

theorem opSetGauge_busy {s : State} (queued : s.hasCalibrate = true) (tag : Tag) (l r : BitVec 32) (st sa : Byte) :
    opSetGauge tag l r st sa s = (s, reply .busy) := if_pos queued

/-! ### The three requests -/

/-- Settles O38: each request's owning rule on the received state. A queued CALIBRATE job decides SET_GAUGE, and the
bytes of READ_REFERENCE are compared item by item. -/
theorem referenceRequestsReachTheRecord : Obligations.ReferenceRequestsReachTheRecord := by
  intro s c t ref
  refine ⟨fun tag l r st sa taken free => exec_taken taken rfl rfl ?_,
    fun tag l r st sa taken queued => exec_taken taken rfl rfl (opSetGauge_busy (s := t) queued tag l r st sa),
    fun taken => exec_taken taken rfl rfl (Prod.ext rfl (congrArg (Reply.mk .ok) ?_)),
    fun taken => exec_taken taken rfl rfl rfl⟩
  · refine (opSetGauge_free (s := t) free tag l r st sa).trans ?_
    rw [okOrClamped_of_iff gaugeClamped_eq_false_iff]
    rfl
  · unfold referenceBytes
    rfl

end Sys2Proof.Machine

/-! PROOF. REQUEST_TOOL and WITHDRAW_TICKET (R124 to R127). -/

namespace Sys2Proof.Machine

-- One proof after another: side by side their threads need more memory than the checks allow.
set_option Elab.async false

/-- The ticket found by a number has that number (R124). -/
theorem State.number_of_ticket? {s : State} {n : Nat} {k : Ticket} (found : s.ticket? n = some k) : k.number = n := by
  simpa using List.find?_some found

/-! ### REQUEST_TOOL (R124 to R126) -/

theorem requestToolBad_eq_false_iff {machine place : Byte} {cls : BitVec 16} {priority : Byte} :
    requestToolBad machine place cls priority = false ↔ machine.toNat ≤ 63 ∧
      (1 ≤ place.toNat ∧ place.toNat ≤ 250) ∧ (1 ≤ cls.toNat ∧ cls.toNat ≤ 4095) ∧ priority.toNat ≤ 1 := by
  simp only [requestToolBad, Bool.or_eq_false_iff, decide_eq_false_iff_not]
  omega

theorem State.hasTicketFor_iff {s : State} {l : LinkId} {machine place : Nat} : s.hasTicketFor l machine place = true ↔
    ∃ k ∈ s.tickets, k.link = l ∧ k.machine = machine ∧ k.machinePocket = place := by
  simp [State.hasTicketFor, and_assoc]

section
variable {s : State} {l : LinkId} {machine place priority : Byte} {cls : BitVec 16} (life : BitVec 24)

theorem opRequestTool_duplicate (ranged : requestToolBad machine place cls priority = false)
    (taken : s.hasTicketFor l machine.toNat place.toNat = true) :
    opRequestTool l machine place cls life priority s = (s, reply .duplicate) := by
  rw [opRequestTool, if_neg (Bool.eq_false_iff.1 ranged), if_pos taken]

theorem opRequestTool_accepted (ranged : requestToolBad machine place cls priority = false)
    (free : ¬ s.hasTicketFor l machine.toNat place.toNat = true) (room : s.tickets.length < 32) {q : State × Nat}
    (placed : s.placeTicket l machine.toNat place.toNat cls.toNat life.toNat (priority == 1) = q) :
    opRequestTool l machine place cls life priority s =
      (q.1.settle true, { code := .accepted, results := ticketOutcome (q.1.settle true) q.2 }) := by
  rw [opRequestTool, if_neg (Bool.eq_false_iff.1 ranged), if_neg free, if_neg (Nat.not_le.2 room), placed]

end

/-! ### WITHDRAW_TICKET (R127) -/

section
variable {s : State} {l : LinkId} {num : BitVec 16} {k : Ticket}

theorem opWithdrawTicket_idle (named : s.ticket? num.toNat = some k) (own : k.link = l)
    (idle : k.phase.isDispensing = false) : opWithdrawTicket l num s = (s.withoutTicket num.toNat, okWith []) := by
  simp [opWithdrawTicket, named, own, idle, State.number_of_ticket? named]

theorem opWithdrawTicket_dispensing (named : s.ticket? num.toNat = some k) (own : k.link = l)
    (busy : k.phase.isDispensing = true) : opWithdrawTicket l num s = (s, reply .busy) := by
  simp [opWithdrawTicket, named, own, busy]

end

/-- Settles O40: a value in range passes the first check and the tickets for the place decide the second; a ticket is
withdrawn unless it is DISPENSING. -/
theorem ticketsAreMadeAndWithdrawn : Obligations.TicketsAreMadeAndWithdrawn := by
  intro s c t
  refine ⟨fun machine place cls life priority opened machines places placesTop classes classesTop priorities => ?_,
    fun num k opened named own => ?_⟩
  · intro taken n k u
    have ranged := requestToolBad_eq_false_iff.2
      ⟨machines, ⟨places, placesTop⟩, ⟨classes, classesTop⟩, priorities⟩
    have duplicate : t.hasTicketFor c.link machine.toNat place.toNat = true ↔ taken := State.hasTicketFor_iff
    refine ⟨fun held => exec_taken opened rfl rfl (opRequestTool_duplicate life ranged (duplicate.2 held)),
      fun free room => exec_taken opened rfl rfl ?_⟩
    have placed : t.placeTicket c.link machine.toNat place.toNat cls.toNat life.toNat (priority == 1) = (u, n) := by
      have queue : placeTail (·.urgent) k s.tickets = u.tickets := by
        by_cases urgent : priority = 1 <;> simp [placeTail, k, u, urgent]
      exact congrArg (fun q => ({ t with tickets := q, nextTicket := nextNumber n }, n)) queue
    refine (opRequestTool_accepted (s := t) life ranged (mt duplicate.1 free) room placed).trans ?_
    refine congrArg (fun bytes => (u.settle true, Reply.mk .accepted bytes)) ?_
    unfold ticketOutcome
    cases (u.settle true).ticket? n with
    | none => rfl
    | some w => cases phase : w.phase <;> simp only [phase] <;> rfl
  · refine ⟨fun idle => exec_taken opened rfl rfl (opWithdrawTicket_idle (s := t) named own ?_),
      fun r busy => exec_taken opened rfl rfl (opWithdrawTicket_dispensing (s := t) named own ?_)⟩
    · rcases idle with phase | phase <;> rw [phase] <;> rfl
    · rw [busy]
      rfl

end Sys2Proof.Machine

/-! PROOF. The issue pass at one ticket: whom it serves, what it escalates, and when it starves (R67, R131 to R138,
R147). -/

namespace Sys2Proof.Machine

-- One proof after another: side by side their threads need more memory than the checks allow.
set_option Elab.async false

/-! ### The best of the table's records (R135, R136) -/

theorem pairwise_numbered (rs : List ToolRecord) (i : Nat) : (numbered i rs).Pairwise fun e f => e.1 < f.1 := by
  induction rs generalizing i with
  | nil => exact .nil
  | cons x xs ih =>
    unfold numbered
    split
    · refine List.pairwise_cons.2 ⟨fun f later => ?_, ih (i + 1)⟩
      exact Fin.lt_def.2 (((mem_numbered xs (i + 1) f.1 f.2).1 later).1)
    · exact .nil

theorem bestOf_eq_none_iff {better : ToolRecord → ToolRecord → Bool} {l : List (RecNo × ToolRecord)} :
    bestOf better l = none ↔ l = [] := by
  cases l with
  | nil => exact ⟨fun _ => rfl, fun _ => rfl⟩
  | cons x xs =>
    refine ⟨fun unanswered => ?_, nofun⟩
    unfold bestOf at unanswered
    split at unanswered
    · cases unanswered
    · split at unanswered <;> cases unanswered

/-- In a list in number order, the entry that is better than each other one, or as good with a lower number, is the
best. -/
theorem bestOf_eq_some {better : ToolRecord → ToolRecord → Bool} {l : List (RecNo × ToolRecord)}
    {e : RecNo × ToolRecord} (asymm : ∀ a b, better a b = true → better b a = false)
    (sorted : l.Pairwise fun e f => e.1 < f.1) (mem : e ∈ l)
    (best : ∀ f ∈ l, better e.2 f.2 = true ∨ (better f.2 e.2 = false ∧ e.1 ≤ f.1)) : bestOf better l = some e := by
  induction l with
  | nil => cases mem
  | cons x xs ih =>
    obtain ⟨before, sorted⟩ := List.pairwise_cons.1 sorted
    rcases List.mem_cons.1 mem with rfl | later
    · have unbeaten : ∀ f ∈ xs, better f.2 e.2 = false := fun f hf =>
        (best f (List.mem_cons_of_mem _ hf)).elim (asymm _ _) And.left
      cases found : bestOf better xs with
      | none => rw [bestOf, found]
      | some f => simp [bestOf, found, unbeaten f (mem_of_bestOf found)]
    · have beats : better e.2 x.2 = true :=
        (best x List.mem_cons_self).resolve_right fun h => absurd h.2 (not_le.2 (before e later))
      rw [bestOf, ih sorted later fun f hf => best f (List.mem_cons_of_mem _ hf)]
      exact if_pos beats

section Choice
variable {s : State} {k : Ticket} {r : RecNo}

theorem State.bestOf_table_eq_none_iff {better : ToolRecord → ToolRecord → Bool} {p : RecNo → ToolRecord → Bool} :
    bestOf better (s.table.filter fun e => p e.1 e.2) = none ↔ ∀ m, ¬ p m (s.tool m) = true := by
  rw [bestOf_eq_none_iff, List.filter_eq_nil_iff]
  refine ⟨fun vacant m => vacant (m, s.tool m) ((s.mem_table m _).2 rfl), fun vacant e mem => ?_⟩
  rw [(s.mem_table e.1 e.2).1 mem]
  exact vacant e.1

/-- Of the records that pass a test, the table's best is the one better than each other, or as good with a lower
number. -/
theorem State.bestOf_table_eq_some {better : ToolRecord → ToolRecord → Bool} {p : RecNo → ToolRecord → Bool}
    (asymm : ∀ a b, better a b = true → better b a = false) (passes : p r (s.tool r) = true)
    (best : ∀ m, p m (s.tool m) = true →
      better (s.tool r) (s.tool m) = true ∨ (better (s.tool m) (s.tool r) = false ∧ r ≤ m)) :
    bestOf better (s.table.filter fun e => p e.1 e.2) = some (r, s.tool r) := by
  refine bestOf_eq_some asymm ((pairwise_numbered _ _).filter _)
    (List.mem_filter.2 ⟨(s.mem_table r _).2 rfl, passes⟩) fun e mem => ?_
  obtain ⟨listed, passed⟩ := List.mem_filter.1 mem
  have current := (s.mem_table e.1 e.2).1 listed
  rw [current] at passed ⊢
  exact best e.1 passed

/-! ### Candidates and escalations (R131, R136) -/

theorem State.isCandidate_iff {m : RecNo} : s.isCandidate k m (s.tool m) = true ↔
    (s.tool m).state = .ready ∧ (∃ p, (s.tool m).loc = .crib p) ∧ (s.tool m).cls = k.cls ∧
      (s.tool m).recalled = false ∧ s.jobOf? m = none ∧ k.minLife ≤ (s.tool m).lifeRem := by
  simp [State.isCandidate, Location.isCrib_iff, and_assoc]

theorem State.mayEscalate_iff {m : RecNo} : s.mayEscalate k m (s.tool m) = true ↔
    (s.tool m).state = .presetDue ∧ (s.tool m).cls = k.cls ∧ (s.tool m).recalled = false ∧
      k.minLife ≤ (s.tool m).lifeRem ∧ (∀ j, s.jobOf? m = some j → j.kind = .preset) ∧
      ∀ w ∈ s.tickets, w.number ≠ k.number → w.escalated ≠ some m := by
  cases named : s.jobOf? m <;> simp [State.mayEscalate, named, and_assoc]

theorem State.bestCandidate?_eq_none_iff :
    s.bestCandidate? k = none ↔ ∀ m, ¬ s.isCandidate k m (s.tool m) = true := State.bestOf_table_eq_none_iff

/-- A ticket is served with the least life remaining, then the lowest number (R135). -/
theorem State.bestCandidate?_eq_some (candidate : s.isCandidate k r (s.tool r) = true)
    (least : ∀ m, s.isCandidate k m (s.tool m) = true → (s.tool r).lifeRem < (s.tool m).lifeRem ∨
      ((s.tool r).lifeRem = (s.tool m).lifeRem ∧ r ≤ m)) : s.bestCandidate? k = some (r, s.tool r) := by
  refine State.bestOf_table_eq_some (fun a b => ?_) candidate fun m held => ?_
  · simpa using le_of_lt
  · simpa using (least m held).imp id fun ⟨same, low⟩ => ⟨same.le, low⟩

theorem State.escalationChoice?_eq_none_iff :
    s.escalationChoice? k = none ↔ ∀ m, ¬ s.mayEscalate k m (s.tool m) = true := State.bestOf_table_eq_none_iff

/-- A ticket escalates the record with the most life remaining, then the lowest number (R136). -/
theorem State.escalationChoice?_eq_some (due : s.mayEscalate k r (s.tool r) = true)
    (most : ∀ m, s.mayEscalate k m (s.tool m) = true → (s.tool m).lifeRem < (s.tool r).lifeRem ∨
      ((s.tool r).lifeRem = (s.tool m).lifeRem ∧ r ≤ m)) : s.escalationChoice? k = some (r, s.tool r) := by
  refine State.bestOf_table_eq_some (fun a b => ?_) due fun m held => ?_
  · simpa using le_of_lt
  · simpa using (most m held).imp id fun ⟨same, low⟩ => ⟨same.ge, low⟩

end Choice

/-! ### The ticket served, held, starved or escalated (R133 to R138, R147) -/

theorem State.changeTicket_eq (s : State) (n : Nat) (f : Ticket → Ticket) :
    s.changeTicket n f = { s with tickets := s.tickets.map fun w => if w.number = n then f w else w } := by
  simp only [State.changeTicket, beq_iff_eq]

section Pass
variable {s : State} {k : Ticket} {r : RecNo}

theorem State.reservationFree_iff : s.reservationFree = true ↔
    s.tickets.countP (fun w => w.phase.isDispensing) + s.handoffs.length < 64 := decide_eq_true_iff

/-- An urgent ticket is granted any free slot, a normal one a slot beyond those for urgent fetch claims (R147). -/
theorem State.grantsTicket_iff : s.grantsTicket k = true ↔ if k.urgent then s.orders.length < 16 else
    min (s.jobs.countP fun j => j.urgent && s.holdsClaim j) (2 - s.fetchingCount) < 16 - s.orders.length := by
  unfold State.grantsTicket
  split
  · exact decide_eq_true_iff.trans Nat.sub_pos_iff_lt
  · exact decide_eq_true_iff

/-- Serving a ticket allocates the READY record, makes the order and marks the ticket DISPENSING (R135). -/
theorem State.serve_eq (p : Fin 240) (ready : (s.tool r).state = .ready) : s.serve k r p =
    { s.setTool r { s.tool r with state := .allocated, version := (s.tool r).version + 1 } with
      orders := s.orders ++ [{ number := takeNumber s.nextOrder (s.orders.map (·.number)), link := .cell k.number
                               record := r, pocket := p, phase := .released }]
      nextOrder := nextNumber (takeNumber s.nextOrder (s.orders.map (·.number)))
      tickets := s.tickets.map fun w =>
        if w.number = k.number then { w with phase := .dispensing r, starved := false } else w } := by
  have moves : RecState.allocated ≠ (s.tool r).state := fun same => nomatch same.trans ready
  rw [State.serve, State.changeTool_of_state moves]
  exact State.changeTicket_eq _ _ _

theorem State.passTicket_of_waiting {n : Nat} (found : s.ticket? n = some k) (waiting : k.phase = .waiting) :
    s.passTicket n = s.passWaiting k := by
  rw [State.passTicket, found]
  exact if_pos waiting

theorem State.passTicket_of_not_waiting {n : Nat} (passed : ∀ k, s.ticket? n = some k → k.phase ≠ .waiting) :
    s.passTicket n = s := by
  unfold State.passTicket
  split
  · rfl
  · next k found => exact if_neg (passed k found)

theorem State.passWaiting_of_served {p : Fin 240} (best : s.bestCandidate? k = some (r, s.tool r))
    (place : (s.tool r).loc = .crib p) (free : s.reservationFree = true) (granted : s.grantsTicket k = true) :
    s.passWaiting k = s.serve k r p := by
  simp only [State.passWaiting, best, Location.pocket?_eq_some_iff.2 place, free, granted, Bool.and_self, if_true]

/-- A claim that is held clears STARVED and does nothing else (R133, R147). -/
theorem State.passWaiting_of_held (candidate : s.isCandidate k r (s.tool r) = true)
    (held : ¬ (s.reservationFree = true ∧ s.grantsTicket k = true)) :
    s.passWaiting k = s.changeTicket k.number fun u => { u with starved := false } := by
  cases best : s.bestCandidate? k with
  | none => exact absurd candidate (State.bestCandidate?_eq_none_iff.1 best r)
  | some e =>
    obtain ⟨listed, chosen⟩ := List.mem_filter.1 (mem_of_bestOf best)
    rw [(s.mem_table e.1 e.2).1 listed] at chosen
    obtain ⟨-, ⟨p, place⟩, -⟩ := State.isCandidate_iff.1 chosen
    rw [← (s.mem_table e.1 e.2).1 listed] at place
    simp only [State.passWaiting, best, Location.pocket?_eq_some_iff.2 place]
    exact if_neg (mt Bool.and_eq_true_iff.1 held)

theorem State.passWaiting_of_unescalated (vacant : ∀ m, ¬ s.isCandidate k m (s.tool m) = true)
    (unescalated : k.escalated = none) : s.passWaiting k = s.escalate k := by
  rw [State.passWaiting, State.bestCandidate?_eq_none_iff.2 vacant]
  dsimp only
  rw [unescalated]

theorem State.passWaiting_of_escalated (vacant : ∀ m, ¬ s.isCandidate k m (s.tool m) = true)
    (escalated : k.escalated = some r) :
    s.passWaiting k = if s.escalationAlive r then s else s.starve k := by
  rw [State.passWaiting, State.bestCandidate?_eq_none_iff.2 vacant]
  dsimp only
  rw [escalated]

/-- An escalated record is on its way while it waits for a PRESET job, is measured, or is READY (R138). -/
theorem State.escalationAlive_iff : s.escalationAlive r = true ↔
    ((s.tool r).state = .presetDue ∧ ∃ j ∈ s.jobs, j.record = some r ∧ j.kind = .preset) ∨
      (s.tool r).state = .measuring ∨ (s.tool r).state = .ready := by
  cases state : (s.tool r).state <;> simp [State.escalationAlive, state]

/-! ### The escalation (R136, R137, R67) -/

theorem State.starve_eq (s : State) (k : Ticket) : s.starve k =
    { s with tickets := s.tickets.map fun w => if w.number = k.number then { w with starved := true } else w } :=
  s.changeTicket_eq _ _

theorem State.noteEscalation_eq (s : State) (k : Ticket) (r : RecNo) : s.noteEscalation k r =
    { s with tickets := s.tickets.map fun w =>
        if w.number = k.number then { w with escalated := some r, starved := false } else w } :=
  s.changeTicket_eq _ _

/-- A promoted job goes to the tail of the urgent section, or stays where it stands there (R67). -/
theorem State.promote_eq {n : Nat} {j : Job} (named : s.job? n = some j) : s.promote n =
    { s with jobs := if j.urgent then s.jobs
               else (s.jobs.filter fun w => w.number != n).filter (·.urgent) ++ { j with urgent := true } ::
                 (s.jobs.filter fun w => w.number != n).filter fun w => !w.urgent } := by
  rw [State.promote, named]
  dsimp only
  split <;> rfl

theorem State.escalate_of_none (vacant : ∀ m, ¬ s.mayEscalate k m (s.tool m) = true) : s.escalate k = s.starve k := by
  rw [State.escalate, State.escalationChoice?_eq_none_iff.2 vacant]

theorem State.escalate_of_job {j : Job} (chosen : s.escalationChoice? k = some (r, s.tool r))
    (named : s.jobOf? r = some j) : s.escalate k = (s.promote j.number).noteEscalation k r := by
  simp only [State.escalate, chosen, named]

theorem State.escalate_of_room (chosen : s.escalationChoice? k = some (r, s.tool r)) (unnamed : s.jobOf? r = none)
    (room : s.jobs.length < 16) : s.escalate k =
      State.noteEscalation (s.enqueue .preset (some r) (s.tool r).plan .escalation true .tail).1 k r := by
  simp [State.escalate, chosen, unnamed, State.mayEnqueue, room]

theorem State.escalate_of_full (chosen : s.escalationChoice? k = some (r, s.tool r)) (unnamed : s.jobOf? r = none)
    (full : 16 ≤ s.jobs.length) : s.escalate k = s.starve k := by
  simp [State.escalate, chosen, unnamed, State.mayEnqueue, full]

end Pass

/-- Settles O41: the pass at a ticket by whether a candidate stands, a claim is granted, and a record is escalated; the
best of the table is the one candidate that no other beats. -/
theorem passServesTheLeastLife : Obligations.PassServesTheLeastLife := by
  refine ⟨fun s n k found waiting => ?_, fun s n passed => State.passTicket_of_not_waiting passed, fun s => rfl⟩
  intro candidate due alive room urgentFetches granted noted starved
  have reached : s.passTicket n = s.passWaiting k := State.passTicket_of_waiting found waiting
  obtain rfl : k.number = n := State.number_of_ticket? found
  have candidates (m : RecNo) : s.isCandidate k m (s.tool m) = true ↔ candidate m := State.isCandidate_iff
  have dues (m : RecNo) : s.mayEscalate k m (s.tool m) = true ↔ due m := State.mayEscalate_iff
  have unserved (vacant : ∀ m, ¬ candidate m) (m : RecNo) : ¬ s.isCandidate k m (s.tool m) = true :=
    mt (candidates m).1 (vacant m)
  rw [reached]
  refine ⟨fun r p held place least free slot => ?_, fun m held refused => ?_,
    fun r vacant unescalated held most => ?_, fun vacant unescalated idle => ?_, fun m vacant escalated => ?_⟩
  · have best := State.bestCandidate?_eq_some ((candidates r).2 held) fun m other => least m ((candidates m).1 other)
    rw [State.passWaiting_of_served best place (State.reservationFree_iff.2 free) (State.grantsTicket_iff.2 slot)]
    exact State.serve_eq p held.1
  · rw [State.passWaiting_of_held ((candidates m).2 held)
      (mt (And.imp State.reservationFree_iff.1 State.grantsTicket_iff.1) refused)]
    exact State.changeTicket_eq _ _ _
  · intro told
    have chosen := State.escalationChoice?_eq_some ((dues r).2 held) fun m other => most m ((dues m).1 other)
    rw [State.passWaiting_of_unescalated (unserved vacant) unescalated]
    refine ⟨fun j named own => ?_, fun unnamed few => ?_, fun unnamed full => ?_⟩
    · rw [State.escalate_of_job chosen named, State.promote_eq own]
      exact State.noteEscalation_eq _ k r
    · rw [State.escalate_of_room chosen unnamed few]
      exact State.noteEscalation_eq _ k r
    · rw [State.escalate_of_full chosen unnamed full]
      exact s.starve_eq k
  · rw [State.passWaiting_of_unescalated (unserved vacant) unescalated,
      State.escalate_of_none fun m => mt (dues m).1 (idle m)]
    exact s.starve_eq k
  · rw [State.passWaiting_of_escalated (unserved vacant) escalated]
    exact ⟨fun lives => if_pos (State.escalationAlive_iff.2 lives),
      fun dead => (if_neg (mt State.escalationAlive_iff.1 dead)).trans (s.starve_eq k)⟩

end Sys2Proof.Machine

/-! PROOF. The questions on tickets, handoff entries and orders (R128, R129, R157, R178). -/

namespace Sys2Proof.Machine

-- One proof after another: side by side their threads need more memory than the checks allow.
set_option Elab.async false

section
variable {s : State} {l : LinkId} {num : BitVec 16}

theorem opIssueStatus_seen {k : Ticket} (named : s.ticket? num.toNat = some k) (seen : s.sees l k.link = true) :
    opIssueStatus l num s = (s, okWith (ticketBytes s k)) := by
  rw [opIssueStatus, named]
  exact if_pos seen

theorem opIssueStatus_unseen {k : Ticket} (named : s.ticket? num.toNat = some k) (unseen : s.sees l k.link = false) :
    opIssueStatus l num s = (s, reply .noSuchTicket) := by
  rw [opIssueStatus, named]
  exact if_neg (Bool.eq_false_iff.1 unseen)

theorem opReadHandoff_seen {h : Handoff} (named : s.handoff? num.toNat = some h) (seen : s.sees l h.link = true) :
    opReadHandoff l num s = (s, okWith (handoffBytes s h)) := by
  rw [opReadHandoff, named]
  exact if_pos seen

theorem opReadHandoff_unseen {h : Handoff} (named : s.handoff? num.toNat = some h)
    (unseen : s.sees l h.link = false) : opReadHandoff l num s = (s, reply .noSuchHandoff) := by
  rw [opReadHandoff, named]
  exact if_neg (Bool.eq_false_iff.1 unseen)

end

/-- A completed frame moves nothing that ISSUE_STATUS answers (R128). -/
theorem ticketBytes_received (s : State) (l : LinkId) (k : Ticket) : ticketBytes (s.received l) k = ticketBytes s k := rfl

/-- Settles O42: each question's owning rule on the received state, which sees what the state before it saw; the bytes
are compared by the phase of the entry. -/
theorem listingsAnswerTheTables : Obligations.ListingsAnswerTheTables := by
  intro s c num t own
  have sees (l : LinkId) : t.sees c.link l = own l := by rw [State.sees, State.role_received]
  refine ⟨fun k taken named seen => exec_taken taken rfl rfl ?_,
    fun k taken named unseen => exec_taken taken rfl rfl
      (opIssueStatus_unseen (s := t) named ((sees k.link).trans unseen)),
    fun taken => exec_taken taken rfl rfl ?_,
    fun h taken named seen => exec_taken taken rfl rfl ?_,
    fun h taken named unseen => exec_taken taken rfl rfl
      (opReadHandoff_unseen (s := t) named ((sees h.link).trans unseen)),
    fun taken => exec_taken taken rfl rfl ?_,
    fun taken => exec_taken taken rfl rfl ?_⟩
  · refine (opIssueStatus_seen (s := t) named ((sees k.link).trans seen)).trans ?_
    refine congrArg (fun bytes => (t, okWith bytes)) ?_
    rw [ticketBytes_received, ticketBytes, failureBytes, ticketOrderBytes, ← State.number_of_ticket? named]
    cases k.phase with
    | waiting => rfl
    | failed => rfl
    | dispensing r =>
      simp only [TicketPhase.isDispensing, if_true, State.orderOfTicket?]
      cases s.orders.find? fun o => o.link == .cell k.number <;> rfl
  · show opListTickets c.link t = _
    simp only [opListTickets, sees]
    rfl
  · refine (opReadHandoff_seen (s := t) named ((sees h.link).trans seen)).trans ?_
    refine congrArg (fun bytes => (t, okWith bytes)) ?_
    rw [handoffBytes]
    cases h.phase <;> simp only [stateVersion, List.append_assoc] <;> rfl
  · show opListHandoffs c.link t = _
    simp only [opListHandoffs, sees]
    rfl
  · refine congrArg (fun bytes => (t, okWith ([Config.doorLineCode s.doorIsOpen] ++ b1 s.fetchingCount ++
      b1 s.orders.length ++ bytes))) ?_
    refine congrArg (List.flatMap · s.orders) (funext fun o => ?_)
    rw [orderBytes]
    cases o.link <;> cases o.phase <;> rfl

end Sys2Proof.Machine

/-! PROOF. The crib orders (R140, R141, R149 to R154): FETCH_ORDER, the door line, ORDER_DONE and the dispense timer. -/

namespace Sys2Proof.Machine

-- One proof after another: side by side their threads need more memory than the checks allow.
set_option Elab.async false

theorem State.changeOrder_eq (s : State) (n : Nat) (f : Order → Order) :
    s.changeOrder n f = { s with orders := s.orders.map fun q => if q.number = n then f q else q } := by
  simp only [State.changeOrder, beq_iff_eq]

theorem State.changeJob_eq (s : State) (n : Nat) (f : Job → Job) :
    s.changeJob n f = { s with jobs := s.jobs.map fun j => if j.number = n then f j else j } := by
  simp only [State.changeJob, beq_iff_eq]

/-- The order found by a number has that number (R144). -/
theorem State.number_of_order? {s : State} {n : Nat} {o : Order} (found : s.order? n = some o) : o.number = n := by
  simpa using List.find?_some found

/-- The job found by a number has that number (R62). -/
theorem State.number_of_job? {s : State} {n : Nat} {j : Job} (found : s.job? n = some j) : j.number = n := by
  simpa using List.find?_some found

theorem State.changeTool_of_loc {s : State} {n : RecNo} {f : ToolRecord → ToolRecord}
    (h : (f (s.tool n)).loc ≠ (s.tool n).loc) :
    s.changeTool n f = s.setTool n { f (s.tool n) with version := (s.tool n).version + 1 } := by
  rw [s.changeTool_eq, ToolRecord.change_of_loc _ _ h]

/-! ### FETCH_ORDER and the door (R149, R150) -/

section
variable {s : State} {o : Order}

theorem State.oldestReleased?_eq_some {before after : List Order} (list : s.orders = before ++ o :: after)
    (older : ∀ b ∈ before, b.phase ≠ .released) (released : o.phase = .released) : s.oldestReleased? = some o := by
  rw [State.oldestReleased?, List.find?_eq_some_iff_append]
  exact ⟨beq_iff_eq.2 released, before, after, list, fun b mem => by simpa using older b mem⟩

theorem State.oldestReleased?_eq_none (fetched : ∀ q ∈ s.orders, q.phase ≠ .released) : s.oldestReleased? = none := by
  rw [State.oldestReleased?, List.find?_eq_none]
  exact fun q mem => by simpa using fetched q mem

theorem opFetchOrder_of_oldest (closed : s.doorIsOpen = false) (oldest : s.oldestReleased? = some o) :
    opFetchOrder s = (s.changeOrder o.number fun q => { q with phase := .fetched s.settings.dispenseTimeout },
      okWith (fetchBytes s o)) := by
  rw [opFetchOrder, if_neg (Bool.eq_false_iff.1 closed), oldest]

theorem opFetchOrder_of_none (h : s.doorIsOpen = true ∨ s.oldestReleased? = none) :
    opFetchOrder s = (s, reply .none) := by
  have unfetched : (if s.doorIsOpen then none else s.oldestReleased?) = none := by
    rcases h with opened | none
    · exact if_pos opened
    · rw [none, ite_self]
  rw [opFetchOrder, unfetched]

end

/-- A completed frame moves nothing that FETCH_ORDER answers (R149). -/
theorem fetchBytes_received (s : State) (l : LinkId) (o : Order) : fetchBytes (s.received l) o = fetchBytes s o := rfl

/-- Settles O43: the oldest RELEASED order is the first in the list, and the door's events are judged by the level they
find. -/
theorem fetchOrderTakesTheOldest : Obligations.FetchOrderTakesTheOldest := by
  intro s c t
  refine ⟨fun o before after taken closed list older released => exec_taken taken rfl rfl ?_,
    fun taken idle => exec_taken taken rfl rfl (opFetchOrder_of_none (s := t) ?_),
    fun up closed => (State.event_up _ _ up).trans ?_, fun up opened => (State.event_up _ _ up).trans ?_⟩
  · have oldest : t.oldestReleased? = some o := State.oldestReleased?_eq_some (s := t) list older released
    refine (opFetchOrder_of_oldest (s := t) closed oldest).trans ?_
    rw [State.changeOrder_eq, fetchBytes_received, fetchBytes, destinationBytes, State.orderTicket?]
    cases o.link with
    | presetter n => rfl
    | cell n =>
      dsimp only
      cases s.ticket? n <;> rfl
  · exact idle.imp id fun fetched => State.oldestReleased?_eq_none (s := t) fetched
  · rw [State.doorOpens, if_neg (Bool.eq_false_iff.1 closed)]
  · rw [State.doorCloses, if_pos opened]

/-! ### A delivery (R140, R152, R169) -/

section
variable {s : State} {o : Order} {m n : Nat}

/-- A delivery to a cell: the tool IN_TRANSIT, and its ticket's place taken by a staged entry (R140, R152, R169). -/
theorem State.deliver_cell {k : Ticket} (named : s.order? m = some o) (link : o.link = .cell n)
    (ticketed : s.ticket? n = some k) (allocated : (s.tool o.record).state = .allocated) :
    let moved : ToolRecord :=
      { s.tool o.record with state := .inTransit, loc := .transit, version := (s.tool o.record).version + 1 }
    let h := takeNumber s.nextHandoff (s.handoffs.map (·.number))
    s.deliver o = { s.setTool o.record moved with
      orders := s.orders.filter fun q => q.number != m
      tickets := s.tickets.filter fun w => w.number != n
      handoffs := s.handoffs ++ [{ number := h, ticket := n, link := k.link, machine := k.machine
                                   machinePocket := k.machinePocket, record := o.record, snapshot := moved.snapshot
                                   phase := .staged }]
      nextHandoff := nextNumber h } := by
  intro moved h
  have moves : RecState.inTransit ≠ (s.tool o.record).state := fun same => nomatch same.trans allocated
  have tool : ((s.setTool o.record moved).tool o.record).snapshot = moved.snapshot := by rw [State.tool_setTool_self]
  have found : ((s.setTool o.record moved).withoutOrder o.number).ticket? n = some k := ticketed
  obtain rfl : k.number = n := State.number_of_ticket? ticketed
  obtain rfl : o.number = m := State.number_of_order? named
  rw [State.deliver, link]
  dsimp only
  rw [State.changeTool_of_state moves, found, ← tool]
  rfl

/-- A delivery to the presetter: the tool there, and its job WAITING (R72, R152). -/
theorem State.deliver_presetter {p : Fin 240} (named : s.order? m = some o) (link : o.link = .presetter n)
    (place : (s.tool o.record).loc = .crib p) :
    s.deliver o = { s.setTool o.record
        { s.tool o.record with loc := .presetter, version := (s.tool o.record).version + 1 } with
      orders := s.orders.filter fun q => q.number != m
      jobs := s.jobs.map fun j => if j.number = n then { j with phase := .waiting } else j } := by
  obtain rfl : o.number = m := State.number_of_order? named
  have moves : Location.presetter ≠ (s.tool o.record).loc := fun same => nomatch same.trans place
  rw [State.deliver, link]
  dsimp only
  rw [State.changeTool_of_loc moves, State.changeJob_eq]
  rfl

end

/-! ### A failure (R73, R141, R153) -/

/-- The record of an order that failed: CHECK at UNKNOWN, with its fault and its version one higher (R153). -/
def State.loseTool (s : State) (n : RecNo) (fault : LastFault) : State :=
  s.setTool n
    { s.tool n with state := .check, loc := .unknown, lastFault := fault, version := (s.tool n).version + 1 }

theorem State.state_loseTool (s : State) (n : RecNo) (fault : LastFault) :
    ((s.loseTool n fault).tool n).state = .check := by
  rw [State.loseTool, State.tool_setTool_self]

theorem State.version_loseTool (s : State) (n : RecNo) (fault : LastFault) :
    ((s.loseTool n fault).tool n).version = (s.tool n).version + 1 := by
  rw [State.loseTool, State.tool_setTool_self]

theorem State.tag_loseTool (s : State) (n : RecNo) (fault : LastFault) :
    ((s.loseTool n fault).tool n).tag = (s.tool n).tag := by
  rw [State.loseTool, State.tool_setTool_self]

/-- The tickets after a failed order of one: it is FAILED in its place at the third attempt, else WAITING at the head of
its section (R141). -/
def State.ticketsRetried (s : State) (n : Nat) (k : Ticket) : List Ticket :=
  let again : Ticket := { k with attempts := k.attempts + 1, phase := .waiting }
  let others := s.tickets.filter fun w => w.number != n
  if 3 ≤ k.attempts + 1 then
    s.tickets.map fun w => if w.number = n then { w with attempts := w.attempts + 1, phase := .failed } else w
  else if k.urgent then again :: others
  else others.filter (·.urgent) ++ again :: others.filter fun w => !w.urgent

theorem State.retryTicket_eq {s : State} {n : Nat} {k : Ticket} (found : s.ticket? n = some k) :
    s.retryTicket n = { s with tickets := s.ticketsRetried n k } := by
  rw [State.retryTicket, found, State.ticketsRetried]
  dsimp only
  by_cases third : 3 ≤ k.attempts + 1
  · rw [if_pos third, if_pos third, State.changeTicket_eq]
  · rw [if_neg third, if_neg third, State.ticketToHead_eq _ found]
    rfl

/-- The log entry of a fetch that failed, with the tag of the record that its job names (R73, R85). -/
def State.fetchFailedEntry (s : State) (j : Job) (n : RecNo) : LogEntry :=
  { job := j.number, kind := j.kind, record := some n, tag := (s.tool n).tag, status := .fetchFailed
    flags := JobFlags.clear, stations := 0, length := none, radius := none, runout := none, hallTime := s.hallTime? }

/-- The job of a fetch that failed leaves a FETCH_FAILED entry in the log of 32 (R73, R85). -/
theorem State.failFetch_eq {s : State} {j : Job} {n : RecNo} (moving : j.phase ≠ .current)
    (record : j.record = some n) : s.failFetch j = State.autoCalCheck
      { s with
        jobs := s.jobs.filter fun w => w.number != j.number
        log := (s.log ++ [s.fetchFailedEntry j n]).drop (s.log.length + 1 - 32)
        unread := true } := by
  rw [State.failFetch, State.dropJob_of_not_current moving, State.jobTag_of_record record, record, State.appendLog]
  simp only [List.length_append, List.length_singleton]
  rfl

section
variable {s : State} {o : Order} {m n : Nat} (fault : LastFault)

/-- The failure of an order to a cell is taken by its ticket (R141, R153). -/
theorem State.fail_cell {k : Ticket} (named : s.order? m = some o) (link : o.link = .cell n)
    (ticketed : s.ticket? n = some k) (unlost : (s.tool o.record).state ≠ .check) :
    s.fail o fault = { s.loseTool o.record fault with
      orders := s.orders.filter fun q => q.number != m
      tickets := s.ticketsRetried n k } := by
  obtain rfl : o.number = m := State.number_of_order? named
  rw [State.fail, link, State.changeTool_of_state unlost.symm]
  exact State.retryTicket_eq ticketed

/-- The failure of an order to the presetter is taken by its job: it leaves the queue, and its FETCH_FAILED entry the
log of 32 its oldest (R69, R73, R85, R153). -/
theorem State.fail_presetter {j : Job} (named : s.order? m = some o) (link : o.link = .presetter n)
    (queued : s.job? n = some j) (moving : j.phase ≠ .current) (record : j.record = some o.record)
    (unlost : (s.tool o.record).state ≠ .check) :
    s.fail o fault = State.autoCalCheck { s.loseTool o.record fault with
      orders := s.orders.filter fun q => q.number != m
      jobs := s.jobs.filter fun w => w.number != n
      log := (s.log ++ [s.fetchFailedEntry j o.record]).drop (s.log.length + 1 - 32)
      unread := true } := by
  obtain rfl : o.number = m := State.number_of_order? named
  obtain rfl : j.number = n := State.number_of_job? queued
  have found : ((s.loseTool o.record fault).withoutOrder o.number).job? j.number = some j := queued
  have entry : ((s.loseTool o.record fault).withoutOrder o.number).fetchFailedEntry j o.record =
      s.fetchFailedEntry j o.record :=
    congrArg (fun tag => { s.fetchFailedEntry j o.record with tag := tag }) (s.tag_loseTool o.record fault)
  rw [State.fail, link, State.changeTool_of_state unlost.symm]
  dsimp only
  rw [← State.loseTool, found]
  dsimp only
  rw [State.failFetch_eq moving record, entry]
  rfl

end

/-! ### ORDER_DONE and the dispense timer (R151, R154) -/

theorem opOrderDone_fetched {s : State} {num : BitVec 16} {code : Byte} {w : CribOutcome} {o : Order} {left : Nat}
    (outcome : cribOutcome? code.toNat = some w) (named : s.order? num.toNat = some o)
    (fetched : o.phase = .fetched left) :
    opOrderDone num code s =
      (s.retire o w, okWith (b2 o.record.val ++ stateVersion ((s.retire o w).tool o.record))) := by
  have unrefused : (!o.phase.isFetched) = false := by rw [fetched]; rfl
  rw [opOrderDone, outcome, named]
  exact if_neg (Bool.eq_false_iff.1 unrefused)

/-- ORDER_DONE answers the record as its outcome leaves it, when the pass that follows cannot allocate the record. -/
theorem exec_orderDone {s u : State} {c : Caller} {num : BitVec 16} {code : Byte} {w : CribOutcome} {o : Order}
    {left : Nat} {r : ToolRecord} (taken : s.Takes c 0x20) (outcome : cribOutcome? code.toNat = some w)
    (named : s.order? num.toNat = some o) (fetched : o.phase = .fetched left)
    (retired : (s.received c.link).retire o w = u.settle true) (leaves : u.tool o.record = r)
    (outside : ¬ (r.state = .ready ∧ r.loc.isCrib = true)) :
    exec (.orderDone c num code) s = .next (State.answered (u.settle true) c 0x20 .ok
      (b2 o.record.val ++ b1 r.state.code ++ b2 r.version.toNat)) := by
  subst leaves
  refine exec_taken taken rfl rfl ((opOrderDone_fetched (s := s.received c.link) outcome named fetched).trans ?_)
  rw [retired, State.tool_settle _ _ outside, stateVersion, List.append_assoc]
  rfl

/-- A failure reported: the record is answered CHECK with its version one higher (R153). -/
theorem exec_orderDone_failed {s u : State} {c : Caller} {num : BitVec 16} {code : Byte} {fault : LastFault} {o : Order}
    {left : Nat} (taken : s.Takes c 0x20) (outcome : cribOutcome? code.toNat = some (.failed fault))
    (named : s.order? num.toNat = some o) (fetched : o.phase = .fetched left)
    (effect : (s.received c.link).fail o fault = u)
    (lost : u.tool o.record = (s.loseTool o.record fault).tool o.record) :
    exec (.orderDone c num code) s = .next (State.answered (u.settle true) c 0x20 .ok
      (b2 o.record.val ++ b1 RecState.check.code ++ b2 ((s.tool o.record).version + 1).toNat)) := by
  have state : (u.tool o.record).state = .check := by rw [lost, State.state_loseTool]
  have version : (u.tool o.record).version = (s.tool o.record).version + 1 := by rw [lost, State.version_loseTool]
  have unready : (u.tool o.record).state ≠ .ready := fun ready => nomatch ready.symm.trans state
  rw [exec_orderDone taken outcome named fetched (congrArg (State.settle · true) effect) rfl (unready ·.1), state,
    version]

/-- The dispense timer's expiry is a failure of its order, whatever seconds are left (R154; log 6). -/
theorem exec_dispenseTimeout_fetched {s u : State} {num : BitVec 16} {o : Order} {left : Nat} (up : s.mainUp = true)
    (named : s.order? num.toNat = some o) (fetched : o.phase = .fetched left) (effect : s.fail o .orderTimeout = u) :
    exec (.dispenseTimeout num) s = .next (State.judgeAttention (u.settle true)) := by
  have running : o.phase.isFetched = true := by rw [fetched]; rfl
  have expires : s.dispenseExpires num.toNat = u.settle true := by
    rw [State.dispenseExpires, named]
    exact (if_pos running).trans (congrArg (State.settle · true) effect)
  exact (State.event_up (fun t => t.dispenseExpires num.toNat) s up).trans
    (congrArg (fun w => Host.Outcome.next w.judgeAttention) expires)

/-- Settles O44: each outcome's own effects on the received state, or on the state itself where the timer expires. The
record that is answered is not one that the pass could allocate. -/
theorem orderDoneMovesTheTool : Obligations.OrderDoneMovesTheTool := by
  intro s c num o left named fetched r v t rest done lost
  refine ⟨fun n k taken link ticketed allocated => ?_, fun n taken link ⟨p, place⟩ => ?_,
    fun n k link ticketed allocated => ?_, fun n j link queued moving record held => ?_⟩
  · intro moved h
    have delivered : t.retire o .delivered = _ :=
      congrArg (State.settle · true) (State.deliver_cell (s := t) named link ticketed allocated)
    exact exec_orderDone (r := moved) taken rfl named fetched delivered (t.tool_setTool_self o.record moved)
      fun ready => nomatch ready.1
  · have delivered : t.retire o .delivered = _ :=
      congrArg (State.settle · true) (State.deliver_presetter (s := t) named link place)
    exact exec_orderDone (r := { r with loc := .presetter, version := v }) taken rfl named fetched delivered
      (t.tool_setTool_self o.record _) fun ready => nomatch ready.2
  · intro again others tickets
    have unlost : r.state ≠ .check := fun lost => nomatch lost.symm.trans allocated
    have effect (fault : LastFault) := State.fail_cell (s := t) fault named link ticketed unlost
    exact ⟨fun taken => exec_orderDone_failed taken rfl named fetched (effect _) rfl,
      fun taken => exec_orderDone_failed taken rfl named fetched (effect _) rfl,
      fun up => exec_dispenseTimeout_fetched up named fetched (State.fail_cell _ named link ticketed unlost)⟩
  · intro entry gone
    obtain rfl : j.number = n := State.number_of_job? queued
    have effect (fault : LastFault) := State.fail_presetter (s := t) fault named link queued moving record held
    have tool (fault : LastFault) : (gone (lost t fault)).tool o.record = (s.loseTool o.record fault).tool o.record :=
      State.tool_autoCalCheck _ _
    exact ⟨fun taken => exec_orderDone_failed taken rfl named fetched (effect _) (tool _),
      fun taken => exec_orderDone_failed taken rfl named fetched (effect _) (tool _),
      fun up => exec_dispenseTimeout_fetched up named fetched
        (State.fail_presetter _ named link queued moving record held)⟩

end Sys2Proof.Machine

/-! PROOF. DEPOSIT (R76, R159 to R164): the state a tool is placed in, the job made for it and the job taken back, and
the one version that the whole change counts. -/

namespace Sys2Proof.Machine

-- One proof after another: side by side their threads need more memory than the checks allow.
set_option Elab.async false

/-! ### The state a deposit gives (R160, R161, R163) -/

section
variable {r : ToolRecord}

theorem depositTarget_of_presetter (place : r.loc = .presetter)
    (state : r.state = .ready ∨ r.state = .presetDue ∨ r.state = .quarantine) : depositTarget r = some r.state :=
  if_pos ⟨place, state⟩

/-- The state that a RETURNING tool is deposited in: QUARANTINE when it is damaged, WORN at the end of its life, else
PRESET_DUE (R161). -/
def ToolRecord.returnedState (r : ToolRecord) : RecState :=
  if r.damaged then .quarantine else if r.lifeRem = 0 then .worn else .presetDue

theorem ToolRecord.returnedState_ne_ready (r : ToolRecord) : r.returnedState ≠ .ready := by
  unfold ToolRecord.returnedState
  split
  · exact nofun
  · split <;> exact nofun

theorem depositTarget_of_returning (place : r.loc = .transit) (state : r.state = .returning) :
    depositTarget r = some r.returnedState := by
  rw [depositTarget, if_neg fun held => Location.noConfusion (place.symm.trans held.1), if_pos ⟨place, state⟩,
    ToolRecord.returnedState]
  split
  · rfl
  · split <;> rfl

theorem depositTarget_of_check (place : r.loc = .unknown) (state : r.state = .check) :
    depositTarget r = some .presetDue := by
  rw [depositTarget, if_neg fun held => Location.noConfusion (place.symm.trans held.1),
    if_neg fun held => Location.noConfusion (place.symm.trans held.1), if_pos ⟨place, state⟩]

/-- A deposited record is READY exactly when READY is its target and it is not recalled (R159). -/
theorem depositState_eq_ready (st : RecState) :
    (depositState r st == .ready) = (st == .ready && !r.recalled) := by
  cases recalled : r.recalled <;> simp [depositState, recalled]

theorem depositState_ne_ready {st : RecState} (unready : st ≠ .ready) : (depositState r st == .ready) = false := by
  rw [depositState_eq_ready, beq_false_of_ne unready, Bool.false_and]

end

/-! ### The jobs of a deposit (R76, R162) -/

section
variable {s : State} {n : RecNo}

theorem State.tool_takeBack (s : State) (n m : RecNo) : (s.takeBack n).tool m = s.tool m := by
  unfold State.takeBack
  split
  · rfl
  · split
    · exact State.tool_applyParked _ m
    · rfl

/-- The offered job of a deposited record waits again, and the engine is IDLE (R76). -/
theorem State.takeBack_of_offered {j : Job} (current : s.currentJob? = some j) (record : j.record = some n)
    (offered : s.engine.phase = .offered) :
    s.takeBack n = State.applyParked { s with
      jobs := s.jobs.map fun k => if k.number = j.number then { k with phase := .waiting } else k
      engine := Engine.idle } := by
  rw [State.takeBack, current]
  dsimp only
  rw [if_pos ⟨record, offered⟩, State.changeJob_eq, State.engineToIdle]

theorem State.takeBack_of_unoffered
    (unoffered : ∀ j, s.currentJob? = some j → ¬ (j.record = some n ∧ s.engine.phase = .offered)) :
    s.takeBack n = s := by
  unfold State.takeBack
  split
  · rfl
  · next j current => exact if_neg (unoffered j current)

/-- A record that no CURRENT job names has no job to be taken back (R76). -/
theorem State.takeBack_of_unnamed (unnamed : ∀ j ∈ s.jobs, j.phase = .current → j.record ≠ some n) :
    s.takeBack n = s :=
  State.takeBack_of_unoffered fun j current held =>
    unnamed j (State.mem_of_currentJob? current) (State.phase_of_currentJob? current) held.1

theorem State.unnamed_of_jobOf? (unnamed : s.jobOf? n = none) {j : Job} (queued : j ∈ s.jobs) : j.record ≠ some n := by
  simpa using List.find?_eq_none.1 unnamed j queued

theorem State.enqueueReturn_of_not_returning : s.enqueueReturn n false = (s, none) := by
  simp [State.enqueueReturn]

/-- A returned tool that is PRESET_DUE takes a RETURN job when the setting is on and the queue has room (R162). -/
theorem State.enqueueReturn_of_returning (unnamed : s.jobOf? n = none) : s.enqueueReturn n true =
    let q := s.enqueue .preset (some n) (s.tool n).plan .returned false .tail
    if (s.tool n).state = .presetDue ∧ s.settings.rePreset = 1 ∧ s.jobs.length < 16 then (q.1, some q.2)
    else (s, none) := by
  simp [State.enqueueReturn, State.mayEnqueue, unnamed, and_assoc]

/-- The RETURN job is WAITING, so no deposit takes it back (R76, R162). -/
theorem State.takeBack_enqueueReturn (unnamed : s.jobOf? n = none) (returning : Bool) :
    (s.enqueueReturn n returning).1.takeBack n = (s.enqueueReturn n returning).1 := by
  refine State.takeBack_of_unnamed fun j queued current => ?_
  unfold State.enqueueReturn at queued
  split at queued
  · dsimp only [State.enqueue] at queued
    rcases List.mem_cons.1 ((perm_placeTail _ _ _).mem_iff.1 queued) with rfl | old
    · cases current
    · exact State.unnamed_of_jobOf? unnamed old
  · exact State.unnamed_of_jobOf? unnamed queued

theorem State.tool_enqueueReturn (s : State) (n m : RecNo) (returning : Bool) :
    (s.enqueueReturn n returning).1.tool m = s.tool m := by
  unfold State.enqueueReturn
  split <;> rfl

end

/-! ### The deposit (R159) -/

section
variable {s : State} {n : RecNo} {p : Fin 240} {st : RecState}

/-- A deposited record: in its pocket, in QUARANTINE when it is recalled, its version one higher (R159). -/
def State.placeTool (s : State) (n : RecNo) (p : Fin 240) (st : RecState) : State :=
  s.setTool n { s.tool n with
    state := depositState (s.tool n) st, loc := .crib p, version := (s.tool n).version + 1 }

theorem depositState_eq_presetDue_iff {r : ToolRecord} :
    depositState r st = .presetDue ↔ st = .presetDue ∧ r.recalled = false := by
  cases recalled : r.recalled <;> simp [depositState, recalled]

/-- The RETURN job of a tool just placed, by its target and its RECALLED flag (R159, R162). -/
theorem State.enqueueReturn_placeTool (unnamed : s.jobOf? n = none) : (s.placeTool n p st).enqueueReturn n true =
    let q := (s.placeTool n p st).enqueue .preset (some n) (s.tool n).plan .returned false .tail
    if st = .presetDue ∧ (s.tool n).recalled = false ∧ s.settings.rePreset = 1 ∧ s.jobs.length < 16
    then (q.1, some q.2) else (s.placeTool n p st, none) := by
  have unnamed : (s.placeTool n p st).jobOf? n = none := unnamed
  rw [State.enqueueReturn_of_returning unnamed]
  simp only [State.placeTool, State.tool_setTool_self, depositState_eq_presetDue_iff, and_assoc]
  rfl

/-- A settle leaves a record where it stands. -/
theorem State.loc_settle (s : State) (pass : Bool) (n : RecNo) : ((s.settle pass).tool n).loc = (s.tool n).loc := by
  rcases (s.settles_settle pass).tools n with same | ⟨-, -, allocated⟩
  · rw [same]
  · rw [allocated]

/-- A deposit as its parts, the pass counted in: the record has moved, so its version is one more than before the
change (R11, R130, R159; log 14). -/
theorem State.depositAt_eq (elsewhere : (s.tool n).loc ≠ .crib p) :
    let q := (s.placeTool n p st).enqueueReturn n ((s.tool n).state == .returning)
    let w := (q.1.takeBack n).settle (depositState (s.tool n) st == .ready)
    s.depositAt n p st = (w.setTool n { w.tool n with version := (s.tool n).version + 1 }, q.2) := by
  intro q w
  have placed : (s.changeTool n fun r => { r with state := depositState r st, loc := .crib p }) = s.placeTool n p st :=
    State.changeTool_of_loc elsewhere.symm
  have state : ((s.placeTool n p st).tool n).state = depositState (s.tool n) st := by
    rw [State.placeTool, State.tool_setTool_self]
  have place : (w.tool n).loc = .crib p := by
    rw [State.loc_settle, State.tool_takeBack, State.tool_enqueueReturn, State.placeTool, State.tool_setTool_self]
  rw [State.depositAt, placed]
  dsimp only
  rw [state]
  show (w.setTool n ((s.tool n).change (w.tool n)), q.2) = _
  rw [ToolRecord.change_of_loc _ _ (place ▸ elsewhere.symm)]

end

theorem opDeposit_eq {s : State} {tag : Tag} {pocket : Byte} {n : RecNo} {p : Fin 240} {st : RecState} (used : tag ≠ 0)
    (pocketed : pocket.toNat = p.val) (held : s.holder? tag = some n) (target : depositTarget (s.tool n) = some st)
    (free : ∀ k, k ≠ n → (s.tool k).loc ≠ .crib p) :
    opDeposit tag pocket s = ((s.depositAt n p st).1, okWith (b2 n.val ++
      stateVersion ((s.depositAt n p st).1.tool n) ++ bOpt 2 (s.depositAt n p st).2)) := by
  rw [opDeposit, if_neg used, pocket?_eq pocketed]
  dsimp only
  rw [held]
  dsimp only
  rw [target]
  exact if_neg (Bool.eq_false_iff.1 ((s.pocketHeld_eq_false n p).2 free))

/-- DEPOSIT answers the record's state after the whole change, its version one higher, and the RETURN job (R159; logs
14, 15). -/
theorem exec_deposit {s u v : State} {c : Caller} {tag : Tag} {pocket : Byte} {n : RecNo} {p : Fin 240} {st : RecState}
    {job : Option Nat} {prompted : Bool} (taken : s.Takes c 0x21) (used : tag ≠ 0) (pocketed : pocket.toNat = p.val)
    (held : s.holder? tag = some n) (free : ∀ k, k ≠ n → (s.tool k).loc ≠ .crib p)
    (target : depositTarget (s.tool n) = some st) (elsewhere : (s.tool n).loc ≠ .crib p)
    (jobs : ((s.received c.link).placeTool n p st).enqueueReturn n ((s.tool n).state == .returning) = (u, job))
    (back : u.takeBack n = v) (prompts : (depositState (s.tool n) st == .ready) = prompted) :
    exec (.deposit c tag pocket) s = .next (State.answered
      ((v.settle prompted).setTool n { (v.settle prompted).tool n with version := (s.tool n).version + 1 }) c 0x21 .ok
      (b2 n.val ++ b1 ((v.settle prompted).tool n).state.code ++ b2 ((s.tool n).version + 1).toNat ++ bOpt 2 job)) := by
  have deposited := State.depositAt_eq (s := s.received c.link) (st := st) elsewhere
  dsimp only [State.tool_received] at deposited
  rw [jobs, back, prompts] at deposited
  refine exec_taken taken rfl rfl
    ((opDeposit_eq (s := s.received c.link) used pocketed held target free).trans ?_)
  rw [deposited]
  dsimp only
  rw [State.tool_setTool_self, stateVersion, ← List.append_assoc]
  rfl

/-- Settles O45: the deposit's parts by where the tool stood and in what state. Only a RETURNING tool can take a job,
and only one at the presetter is offered. -/
theorem depositPlacesTheTool : Obligations.DepositPlacesTheTool := by
  intro s c tag pocket n p taken used pocketed held free t r placed done
  have moves {loc : Location} (place : r.loc = loc) (elsewhere : loc ≠ .crib p) : r.loc ≠ .crib p := place ▸ elsewhere
  have jobless (st : RecState) (kept : r.state ≠ .returning) :
      (t.placeTool n p st).enqueueReturn n (r.state == .returning) = (placed st, none) := by
    rw [beq_false_of_ne kept]
    exact State.enqueueReturn_of_not_returning
  have atPresetter (state : r.state = .ready ∨ r.state = .presetDue ∨ r.state = .quarantine) :
      r.state ≠ .returning := by
    rintro returning
    rw [returning] at state
    exact absurd state (by decide)
  refine ⟨fun place state unoffered => ?_, fun j place state current record offered => ?_,
    fun place returning unnamed => ?_, fun place check unnamed => ?_⟩
  · exact exec_deposit taken used pocketed held free (depositTarget_of_presetter place state) (moves place nofun)
      (jobless r.state (atPresetter state)) (State.takeBack_of_unoffered unoffered) (depositState_eq_ready r.state)
  · intro u
    exact exec_deposit taken used pocketed held free (depositTarget_of_presetter place state) (moves place nofun)
      (jobless r.state (atPresetter state)) (State.takeBack_of_offered current record offered)
      (depositState_eq_ready r.state)
  · intro st q
    have jobs := State.enqueueReturn_placeTool (s := t) (p := p) (st := st) unnamed
    have unready := depositState_ne_ready (r := r) r.returnedState_ne_ready
    have unoffered := State.takeBack_enqueueReturn (s := placed st) unnamed true
    have deposited {u : State} {job : Option Nat} (jobs : (placed st).enqueueReturn n true = (u, job)) :
        exec (.deposit c tag pocket) s = .next (done (u.settle false) job) := by
      rw [jobs] at unoffered
      refine exec_deposit taken used pocketed held free (depositTarget_of_returning place returning)
        (moves place nofun) ?_ unoffered unready
      rw [returning]
      exact jobs
    by_cases due : st = .presetDue ∧ r.recalled = false ∧ s.settings.rePreset = 1 ∧ s.jobs.length < 16
    · rw [if_pos due]
      exact deposited (jobs.trans (if_pos due))
    · rw [if_neg due]
      exact deposited (jobs.trans (if_neg due))
  · have kept : r.state ≠ .returning := fun returning => nomatch returning.symm.trans check
    exact exec_deposit taken used pocketed held free (depositTarget_of_check place check) (moves place nofun)
      (jobless .presetDue kept)
      (State.takeBack_of_unnamed (s := placed .presetDue) fun j queued _ => State.unnamed_of_jobOf? unnamed queued)
      (depositState_ne_ready nofun)

end Sys2Proof.Machine

/-! PROOF. The handoff (R171 to R177): FETCH_HANDOFF, and the three ends of an OFFERED entry. -/

namespace Sys2Proof.Machine

-- One proof after another: side by side their threads need more memory than the checks allow.
set_option Elab.async false

/-- The handoff entry found by a number has that number (R168). -/
theorem State.number_of_handoff? {s : State} {n : Nat} {h : Handoff} (found : s.handoff? n = some h) :
    h.number = n := by
  simpa using List.find?_some found

theorem State.changeHandoff_eq (s : State) (n : Nat) (f : Handoff → Handoff) :
    s.changeHandoff n f = { s with handoffs := s.handoffs.map fun k => if k.number = n then f k else k } := by
  simp only [State.changeHandoff, beq_iff_eq]

/-! ### FETCH_HANDOFF (R171) -/

section
variable {s : State} {l : LinkId} {h : Handoff}

theorem State.oldestStaged?_eq_some {before after : List Handoff} (list : s.handoffs = before ++ h :: after)
    (older : ∀ b ∈ before, ¬ (b.link = l ∧ b.phase = .staged)) (own : h.link = l) (staged : h.phase = .staged) :
    s.oldestStaged? l = some h := by
  rw [State.oldestStaged?, List.find?_eq_some_iff_append]
  exact ⟨by simp [own, staged], before, after, list, fun b mem => by simpa [-not_and, not_and_or] using older b mem⟩

theorem State.oldestStaged?_eq_none (unstaged : ∀ k ∈ s.handoffs, ¬ (k.link = l ∧ k.phase = .staged)) :
    s.oldestStaged? l = none := by
  rw [State.oldestStaged?, List.find?_eq_none]
  exact fun k mem => by simpa using unstaged k mem

theorem opFetchHandoff_of_oldest (oldest : s.oldestStaged? l = some h) :
    opFetchHandoff l s = (s.changeHandoff h.number fun k => { k with phase := .offered s.settings.loadTimeout },
      okWith (handoffFetchBytes s h)) := by
  rw [opFetchHandoff, oldest]

theorem opFetchHandoff_of_none (missing : s.oldestStaged? l = none) : opFetchHandoff l s = (s, reply .none) := by
  rw [opFetchHandoff, missing]

end

/-! ### The end of an entry (R172 to R177) -/

section
variable {s : State} {n : Nat} {h : Handoff} {f : ToolRecord → ToolRecord}

theorem HandoffPhase.isOffered_of_offered {phase : HandoffPhase} {left : Nat} (offered : phase = .offered left) :
    phase.isOffered = true := by
  rw [offered]
  rfl

theorem State.handoffFor?_own (named : s.handoff? n = some h) : s.handoffFor? h.link n = some h := by
  rw [State.handoffFor?, named]
  exact if_pos rfl

/-- An entry retired into another state of its record: the entry gone, the version one higher, and a pass (R11,
R177). -/
theorem State.retireHandoff_eq (named : s.handoff? n = some h)
    (moves : (f (s.tool h.record)).state ≠ (s.tool h.record).state) :
    s.retireHandoff h f = State.settle
      { s.setTool h.record { f (s.tool h.record) with version := (s.tool h.record).version + 1 } with
        handoffs := s.handoffs.filter fun k => k.number != n } true := by
  obtain rfl : h.number = n := State.number_of_handoff? named
  have moved : (s.withoutHandoff h.number).changeTool h.record f = _ := State.changeTool_of_state moves
  rw [State.retireHandoff, moved]
  rfl

/-- The pass leaves the retired entry's record as the end made it, for no end makes it READY (R132, R177). -/
theorem State.tool_retireHandoff (moves : (f (s.tool h.record)).state ≠ (s.tool h.record).state)
    (unready : (f (s.tool h.record)).state ≠ .ready) :
    (s.retireHandoff h f).tool h.record =
      { f (s.tool h.record) with version := (s.tool h.record).version + 1 } := by
  have moved : ((s.withoutHandoff h.number).changeTool h.record f).tool h.record =
      { f (s.tool h.record) with version := (s.tool h.record).version + 1 } := by
    rw [State.tool_changeTool_self]
    exact ToolRecord.change_of_state _ _ moves
  rw [State.retireHandoff, State.tool_settle, moved]
  rw [moved]
  exact fun ready => unready ready.1

end

section
variable {s : State} {num : BitVec 16} {h : Handoff} {left : Nat}

theorem opConfirmLoad_offered (named : s.handoff? num.toNat = some h) (offered : h.phase = .offered left)
    (tagged : h.snapshot.tag ≠ 0) (transit : (s.tool h.record).state = .inTransit) :
    let loaded : ToolRecord :=
      { s.tool h.record with
        state := .inMachine, loc := .machine h.place, version := (s.tool h.record).version + 1 }
    opConfirmLoad h.link num h.snapshot.tag s = (State.settle
      { s.setTool h.record loaded with handoffs := s.handoffs.filter fun k => k.number != num.toNat } true,
      okWith (b2 h.record.val ++ stateVersion loaded ++ b3 loaded.lifeRem ++ bFlag loaded.recalled ++
        bFlag ((s.tool h.record).version != h.snapshot.version))) := by
  intro loaded
  have moves : RecState.inMachine ≠ (s.tool h.record).state := fun same => nomatch same.trans transit
  rw [opConfirmLoad, if_neg tagged, State.handoffFor?_own named]
  dsimp only
  rw [HandoffPhase.isOffered_of_offered offered, if_neg (by decide), if_neg (not_not.2 rfl),
    State.tool_retireHandoff, State.retireHandoff_eq named]
  exacts [moves, moves, nofun]

theorem opRejectHandoff_offered (named : s.handoff? num.toNat = some h) (offered : h.phase = .offered left)
    (transit : (s.tool h.record).state = .inTransit) :
    let rejected : ToolRecord :=
      { s.tool h.record with
        state := .returning, loc := .transit, damaged := true, version := (s.tool h.record).version + 1 }
    opRejectHandoff h.link num s = (State.settle
      { s.setTool h.record rejected with handoffs := s.handoffs.filter fun k => k.number != num.toNat } true,
      okWith (b2 h.record.val ++ stateVersion rejected)) := by
  intro rejected
  have moves : RecState.returning ≠ (s.tool h.record).state := fun same => nomatch same.trans transit
  rw [opRejectHandoff, State.handoffFor?_own named]
  dsimp only
  rw [HandoffPhase.isOffered_of_offered offered, if_neg (by decide), State.tool_retireHandoff,
    State.retireHandoff_eq named]
  exacts [moves, moves, nofun]

/-- The load timer's expiry loses the tool, whatever seconds are left (R176; log 6). -/
theorem State.loadExpires_offered (named : s.handoff? num.toNat = some h) (offered : h.phase = .offered left)
    (transit : (s.tool h.record).state = .inTransit) :
    s.loadExpires num.toNat = State.settle
      { s.loseTool h.record .loadTimeout with
        handoffs := s.handoffs.filter fun k => k.number != num.toNat } true := by
  have moves : RecState.check ≠ (s.tool h.record).state := fun same => nomatch same.trans transit
  rw [State.loadExpires, named]
  exact (if_pos (HandoffPhase.isOffered_of_offered offered)).trans (State.retireHandoff_eq named moves)

end

/-- Settles O46: the oldest STAGED entry is the first of the caller's in the table, and each end of an OFFERED one
retires it on the received state, or on the state itself where the timer expires. -/
theorem handoffEndsMoveTheTool : Obligations.HandoffEndsMoveTheTool := by
  intro s c num t
  refine ⟨fun h before after taken list older own staged => exec_taken taken rfl rfl ?_,
    fun taken unstaged => exec_taken taken rfl rfl
      (opFetchHandoff_of_none (s := t) (State.oldestStaged?_eq_none (s := t) unstaged)),
    fun h left named offered transit => ?_⟩
  · have oldest : t.oldestStaged? c.link = some h := State.oldestStaged?_eq_some (s := t) list older own staged
    refine (opFetchHandoff_of_oldest oldest).trans ?_
    rw [State.changeHandoff_eq]
    rfl
  · intro r v rest
    refine ⟨fun own taken tagged => exec_taken taken rfl rfl ?_, fun own taken => exec_taken taken rfl rfl ?_,
      fun up => (State.event_up (fun u => u.loadExpires num.toNat) s up).trans ?_⟩
    · refine (own ▸ opConfirmLoad_offered (s := t) named offered tagged transit).trans ?_
      rw [stateVersion, ← List.append_assoc]
      rfl
    · refine (own ▸ opRejectHandoff_offered (s := t) named offered transit).trans ?_
      rw [stateVersion, ← List.append_assoc]
      rfl
    · exact congrArg (fun w => Host.Outcome.next w.judgeAttention) (State.loadExpires_offered named offered transit)

end Sys2Proof.Machine

/-! PROOF. Tool life in the machine (R179, R180): REPORT_USAGE and REPORT_UNLOAD. -/

namespace Sys2Proof.Machine

-- One proof after another: side by side their threads need more memory than the checks allow.
set_option Elab.async false

section
variable {s : State} {l : LinkId} {n : RecNo} {num : BitVec 16} {q : Place}

/-- A loaded tool is open to the link that its place is on (R179, R180). -/
theorem State.loadedOn_own (number : num.toNat = n.val) (loaded : (s.tool n).state = .inMachine)
    (place : (s.tool n).loc = .machine q) (own : q.link = l) : s.loadedOn l num = .ok n := by
  have mine : (s.tool n).inMachineOn l = true := ToolRecord.inMachineOn_iff.2 ⟨loaded, q, place, own⟩
  rw [State.loadedOn, recNo?_eq number]
  dsimp only
  rw [if_neg (not_not.2 loaded), if_pos mine]

/-- A tool loaded on another link is refused with NOT_YOURS (R179, R180). -/
theorem State.loadedOn_other (number : num.toNat = n.val) (loaded : (s.tool n).state = .inMachine)
    (place : (s.tool n).loc = .machine q) (other : q.link ≠ l) : s.loadedOn l num = .error .notYours := by
  have elsewhere : ¬ (s.tool n).inMachineOn l = true := by
    rintro mine
    obtain ⟨-, p, stands, own⟩ := ToolRecord.inMachineOn_iff.1 mine
    obtain rfl : q = p := Location.machine.inj (place.symm.trans stands)
    exact other own
  rw [State.loadedOn, recNo?_eq number]
  dsimp only
  rw [if_neg (not_not.2 loaded), if_neg elsewhere]

/-- A new life remaining raises the version exactly when it differs from the old (R11). -/
theorem ToolRecord.change_lifeRem_eq (r : ToolRecord) (life : Nat) : r.change { r with lifeRem := life } =
    { r with lifeRem := life, version := if life = r.lifeRem then r.version else r.version + 1 } := by
  by_cases same : life = r.lifeRem
  · subst same
    rw [if_pos rfl]
    exact r.change_self
  · rw [if_neg same]
    exact ToolRecord.change_of_lifeRem _ _ same

theorem opReportUsage_loaded {amount : BitVec 24} (opened : s.loadedOn l num = .ok n) :
    let life := (s.tool n).lifeRem - amount.toNat
    let used : ToolRecord :=
      { s.tool n with
        lifeRem := life
        version := if life = (s.tool n).lifeRem then (s.tool n).version else (s.tool n).version + 1 }
    opReportUsage l num amount s =
      (s.setTool n used, okWith (b3 life ++ b2 used.version.toNat ++ b3 ((s.tool n).lifeRem - life))) := by
  rw [opReportUsage, opened]
  dsimp only
  rw [State.changeTool_eq, ToolRecord.change_lifeRem_eq, State.tool_setTool_self]

theorem opReportUsage_refused {amount : BitVec 24} {code : ReplyCode} (refused : s.loadedOn l num = .error code) :
    opReportUsage l num amount s = (s, reply code) := by
  rw [opReportUsage, refused]

theorem opReportUnload_loaded (opened : s.loadedOn l num = .ok n) (loaded : (s.tool n).state = .inMachine) :
    let unloaded : ToolRecord :=
      { s.tool n with state := .returning, loc := .transit, version := (s.tool n).version + 1 }
    opReportUnload l num s = (s.setTool n unloaded, okWith (stateVersion unloaded ++ b3 unloaded.lifeRem)) := by
  have moves : RecState.returning ≠ (s.tool n).state := fun same => nomatch same.trans loaded
  rw [opReportUnload, opened]
  dsimp only
  rw [State.changeTool_of_state moves, State.tool_setTool_self]

theorem opReportUnload_refused {code : ReplyCode} (refused : s.loadedOn l num = .error code) :
    opReportUnload l num s = (s, reply code) := by
  rw [opReportUnload, refused]

end

/-- Settles O47: the link of the tool's machine place opens the two reports or refuses them, and the version follows
the life. -/
theorem usageLowersTheLife : Obligations.UsageLowersTheLife := by
  intro s c n num q number loaded place t r
  have mine (own : q.link = c.link) : t.loadedOn c.link num = .ok n :=
    State.loadedOn_own (s := t) number loaded place own
  have foreign (other : q.link ≠ c.link) : t.loadedOn c.link num = .error .notYours :=
    State.loadedOn_other (s := t) number loaded place other
  exact ⟨fun _ taken own => exec_taken taken rfl rfl (opReportUsage_loaded (mine own)),
    fun taken own => exec_taken taken rfl rfl (opReportUnload_loaded (mine own) loaded),
    fun _ taken other => exec_taken taken rfl rfl (opReportUsage_refused (foreign other)),
    fun taken other => exec_taken taken rfl rfl (opReportUnload_refused (foreign other))⟩

end Sys2Proof.Machine

/-! PROOF. The attention lines are judged at the end of every change, and an idle second reaches nothing they are judged
by (R194, R195; log 5, log 36). -/

namespace Sys2Proof.Machine

-- One proof after another: side by side their threads need more memory than the checks allow.
set_option Elab.async false

/-! ### What a judgement looks at (R194, R195) -/

section
variable {s t : State} {l : LinkId}

/-- The judgement of a line looks at its link's quiet and mask and at the conditions pending, and at no line itself. -/
theorem State.judgedLine_congr (quiet : (t.link l).quiet = (s.link l).quiet)
    (mask : (t.link l).mask = (s.link l).mask) (conditions : t.conditions l = s.conditions l) :
    t.judgedLine l = s.judgedLine l := by
  rw [State.judgedLine, State.judgedLine, quiet, mask, conditions]

/-- Of the links, the conditions pending on one look at its role alone (R187 to R190). -/
theorem State.conditions_of_links {links : Vector Link 4} (role : links[l].role = (s.link l).role) :
    State.conditions { s with links := links } l = s.conditions l := by
  have same : (State.link { s with links := links } l).role = (s.link l).role := role
  rw [State.conditions, State.conditions, same]
  cases (s.link l).role <;> rfl

theorem State.conditions_judgeAttention : s.judgeAttention.conditions l = s.conditions l :=
  State.conditions_of_links (links := s.judgeAttention.links) <| by
    show (s.judgeAttention.link l).role = _
    rw [s.link_judgeAttention]
    rfl

theorem State.judgedLine_judgeAttention : s.judgeAttention.judgedLine l = s.judgedLine l := by
  have judged := s.link_judgeAttention l
  exact State.judgedLine_congr (by rw [judged]; rfl) (by rw [judged]; rfl) State.conditions_judgeAttention

end

/-- Judging the attention lines leaves each as it must be judged. -/
theorem State.attentionJudged_judgeAttention (s : State) : s.judgeAttention.AttentionJudged := by
  refine s.judgeAttention.attentionJudged_iff.2 fun _ l => ?_
  rw [s.link_judgeAttention, State.judgedLine_judgeAttention]
  rfl

/-! ### The idle second (log 5) -/

/-- A change of a queue's entries in their places that keeps their numbers, and keeps which of them a test accepts,
finds the same number. -/
theorem number_find?_map {α : Type} {f : α → α} {p : α → Bool} {number : α → Nat} (test : ∀ x, p (f x) = p x)
    (same : ∀ x, number (f x) = number x) (q : List α) : ((q.map f).find? p).map number = (q.find? p).map number := by
  have tests : p ∘ f = p := funext test
  have numbers : number ∘ f = number := funext same
  rw [List.find?_map, tests, Option.map_map, numbers]

theorem Order.released_secondPasses (o : Order) : (o.secondPasses.phase == .released) = (o.phase == .released) := by
  cases phase : o.phase <;> simp [Order.secondPasses, phase]

theorem Order.number_secondPasses (o : Order) : o.secondPasses.number = o.number := by
  unfold Order.secondPasses
  split <;> rfl

/-- A second off a load timer moves only the timer: an entry that is not STAGED stays so. -/
theorem Handoff.secondPasses_same (h : Handoff) : h.secondPasses.number = h.number ∧
    h.secondPasses.link = h.link ∧ h.secondPasses.record = h.record ∧
    (h.secondPasses.phase == .staged) = (h.phase == .staged) := by
  cases phase : h.phase <;> simp [Handoff.secondPasses, phase]

/-- A second changes only an engine that is ARMED, and leaves it ARMED. -/
theorem Engine.secondPasses_cases (e : Engine) :
    e.secondPasses = e ∨ (e.phase.isArmed = true ∧ e.secondPasses.phase.isArmed = true) := by
  cases phase : e.phase <;> simp [Engine.secondPasses, phase, EnginePhase.isArmed]

/-- An engine is in a phase without a timer after a second exactly when it was in it before. -/
theorem Engine.phase_secondPasses_beq (e : Engine) {p : EnginePhase} (timerless : p.isArmed = false) :
    (e.secondPasses.phase == p) = (e.phase == p) := by
  have other {q : EnginePhase} (armed : q.isArmed = true) : (q == p) = false := by
    refine beq_false_of_ne fun same => ?_
    rw [same, timerless] at armed
    cases armed
  rcases e.secondPasses_cases with same | ⟨before, after⟩
  · rw [same]
  · rw [other before, other after]

/-- The state after an idle second of a part with main power. -/
theorem State.idleSecond_up {s : State} (up : s.mainUp = true) : s.idleSecond =
    { s with orders := s.orders.map Order.secondPasses, handoffs := s.handoffs.map Handoff.secondPasses,
             engine := s.engine.secondPasses, links := s.links.map Link.secondPasses } := if_pos up

theorem State.link_idleSecond {s : State} (up : s.mainUp = true) (l : LinkId) :
    s.idleSecond.link l = (s.link l).secondPasses := by
  simp [State.idleSecond_up up, State.link]

/-- An idle second leaves the conditions of every link as they were: none of them looks at a timer. -/
theorem State.conditions_idleSecond {s : State} (up : s.mainUp = true) (l : LinkId) :
    s.idleSecond.conditions l = s.conditions l := by
  have role : (s.idleSecond.link l).role = (s.link l).role := by rw [State.link_idleSecond up]; rfl
  rw [State.conditions, State.conditions, role, State.idleSecond_up up]
  cases (s.link l).role with
  | cell =>
    have recalled (n : RecNo) : (s.handoffs.map Handoff.secondPasses).any (fun h => h.record == n && h.link == l) =
        s.handoffs.any fun h => h.record == n && h.link == l := by
      rw [List.any_map]
      congr 1
      funext h
      obtain ⟨-, link, record, -⟩ := h.secondPasses_same
      rw [Function.comp, link, record]
    have staged := number_find?_map (p := fun h : Handoff => h.link == l && h.phase == .staged)
      (number := Handoff.number) (f := Handoff.secondPasses) (q := s.handoffs)
      (fun h => by obtain ⟨-, link, -, phase⟩ := h.secondPasses_same; rw [link, phase]) fun h => h.secondPasses_same.1
    show State.cellConditions _ l = _
    rw [State.cellConditions, State.cellConditions]
    dsimp only
    simp only [recalled, staged]
    rfl
  | presetter =>
    show State.presetterConditions _ = _
    rw [State.presetterConditions, State.presetterConditions]
    dsimp only
    rw [s.engine.phase_secondPasses_beq rfl, s.engine.phase_secondPasses_beq rfl]
    rfl
  | crib =>
    have oldest := number_find?_map (p := fun o => o.phase == .released) Order.released_secondPasses
      Order.number_secondPasses s.orders
    show State.cribConditions _ = _
    rw [State.cribConditions, State.cribConditions, State.oldestReleased?]
    dsimp only
    rw [oldest]
    rfl
  | supervisor => rfl
  | disabled => rfl

/-- An idle second keeps every line as it must be judged, without a judgement of its own. -/
theorem State.attentionJudged_idleSecond {s : State} (judged : s.AttentionJudged) : s.idleSecond.AttentionJudged := by
  cases up : s.mainUp with
  | false => rwa [State.idleSecond, if_neg (Bool.eq_false_iff.1 up)]
  | true =>
    refine s.idleSecond.attentionJudged_iff.2 fun _ l => ?_
    have link := State.link_idleSecond up l
    rw [State.judgedLine_congr (by rw [link]; rfl) (by rw [link]; rfl) (State.conditions_idleSecond up l), link]
    exact s.attentionJudged_iff.1 judged up l

/-! ### Steps -/

/-- Whatever a command does under main power, its change ends with a judgement; without it there is nothing to judge. -/
theorem State.attentionJudged_event {f : State → State} {s t : State} (e : State.event f s = .next t) :
    t.AttentionJudged := by
  obtain rfl := Host.Outcome.next.inj e
  split
  · exact State.attentionJudged_judgeAttention _
  · next down => exact fun up => absurd up down

/-- A start judges the lines, a loss of a supply leaves no main power or changes nothing, and every other command is a
request or an event. -/
theorem State.attentionJudged_exec {i : Instr} {s t : State} (judged : s.AttentionJudged) (e : exec i s = .next t) :
    t.AttentionJudged := by
  cases i
  case start => exact Host.Outcome.next.inj e ▸ State.attentionJudged_judgeAttention _
  case mainPowerLoss => exact Host.Outcome.next.inj e ▸ nofun
  case backupSupplyLoss =>
    obtain rfl := Host.Outcome.next.inj e
    rw [State.backupSupplyLoss]
    split
    · exact judged
    · next down => exact fun up => absurd up down
  case dispenseTimeout order => exact State.attentionJudged_event (f := fun t => t.dispenseExpires order.toNat) e
  case loadTimeout handoff => exact State.attentionJudged_event (f := fun t => t.loadExpires handoff.toNat) e
  all_goals exact State.attentionJudged_event e

/-- Settles O56: a command ends its change with a judgement of the lines, and an idle second moves only timers, which
no judgement looks at. -/
theorem stepsKeepAttentionJudged : Obligations.StepsKeepAttentionJudged := by
  intro s t judged e
  unfold step at e
  split at e
  · exact Host.Outcome.next.inj e ▸ State.attentionJudged_idleSecond judged
  · next rest _ =>
    have taken : State.AttentionJudged { s with pending := rest } := judged
    exact State.attentionJudged_exec taken e

end Sys2Proof.Machine

/-! PROOF. The hall clock and the dates of a calibration (R118, R119, R197 to R199): each request and timer on the
received state. -/

namespace Sys2Proof.Machine

-- One proof after another: side by side their threads need more memory than the checks allow.
set_option Elab.async false

section
variable {s : State}

/-- A set clock below its top advances; the check and what follows it come only as it meets valid-until (R197). -/
theorem State.advanceHall_running (set : s.hall.set = true) (below : s.hall.count < maxSeconds) :
    let later : State := { s with hall := { s.hall with count := s.hall.count + 1 } }
    s.advanceHall = if s.reference.validUntil = some (s.hall.count + 1) then later.autoCalCheck.settle false else later :=
  if_pos (Bool.and_eq_true_iff.2 ⟨set, decide_eq_true below⟩)

theorem State.advanceHall_stopped (stopped : s.hall.set = false ∨ maxSeconds ≤ s.hall.count) : s.advanceHall = s := by
  refine if_neg fun running => ?_
  obtain ⟨set, below⟩ := Bool.and_eq_true_iff.1 running
  rcases stopped with unset | top
  · exact Bool.false_ne_true (unset.symm.trans set)
  · exact absurd (of_decide_eq_true below) (Nat.not_lt.2 top)

theorem State.agePending_pending (pending : s.reference.timePending = true) : s.agePending =
    { s with reference := { s.reference with pendingAge := min maxSeconds (s.reference.pendingAge + 1) } } :=
  if_pos pending

theorem State.agePending_dated (dated : s.reference.timePending = false) : s.agePending = s :=
  if_neg (Bool.eq_false_iff.1 dated)

end

/-- A calibration older than the clock's time is dated 0 (R119). -/
theorem sub_eq_ite_le (a b : Nat) : a - b = if b ≤ a then a - b else 0 := by
  split_ifs <;> omega

/-- Settles O39: each request's owning rule on the received state; an advance by whether the clock runs and meets
valid-until; the pending age by whether time is pending. -/
theorem hallTimeDatesTheReference : Obligations.HallTimeDatesTheReference := by
  intro s c t ref later
  refine ⟨fun v taken => exec_taken taken rfl rfl ?_, fun taken => exec_taken taken rfl rfl rfl,
    fun up set below apart => (State.event_up _ s up).trans ?_,
    fun up set below meets => (State.event_up _ s up).trans ?_,
    fun up stopped => (State.event_up _ s up).trans ?_,
    fun up pending => (State.event_up _ s up).trans ?_,
    fun up dated => (State.event_up _ s up).trans ?_⟩
  · rw [← sub_eq_ite_le]
    rfl
  · rw [State.advanceHall_running set below, if_neg apart]
  · rw [State.advanceHall_running set below, if_pos meets]
  · rw [State.advanceHall_stopped stopped]
  · rw [State.agePending_pending pending]
    rfl
  · rw [State.agePending_dated dated]

end Sys2Proof.Machine

/-! PROOF. The conditions pending on a link and their parameters (R186 to R193): what is found when a part of them is
listed, and each role's list code by code. -/

namespace Sys2Proof.Machine

-- One proof after another: side by side their threads need more memory than the checks allow.
set_option Elab.async false

/-! ### The lowest record that qualifies (R187, R190) -/

section
variable {s : State} {p : RecNo → ToolRecord → Bool} {n m : RecNo}

/-- The record found is the lowest: the table stands in number order. -/
theorem State.lowest?_le (found : s.lowest? p = some m) (passes : p n (s.tool n) = true) : m ≤ n := by
  obtain ⟨e, first, rfl⟩ := Option.map_eq_some_iff.1 found
  obtain ⟨-, before, after, split, failed⟩ := List.find?_eq_some_iff_append.1 first
  have sorted : s.table.Pairwise fun e f => e.1 < f.1 := pairwise_numbered _ _
  have listed := (s.mem_table n (s.tool n)).2 rfl
  rw [split] at sorted listed
  rcases List.mem_append.1 listed with earlier | later
  · have := failed _ earlier
    simp [passes] at this
  · rcases List.mem_cons.1 later with own | behind
    · exact (congrArg Prod.fst own).ge
    · exact (List.rel_of_pairwise_cons (List.pairwise_append.1 sorted).2.1 behind).le

theorem State.lowestNumber?_eq_some (passes : p n (s.tool n) = true)
    (least : ∀ m, p m (s.tool m) = true → n ≤ m) : s.lowestNumber? p = some n.val := by
  cases found : s.lowest? p with
  | none => exact absurd passes (Bool.eq_false_iff.1 ((s.lowest?_eq_none p).1 found n))
  | some m =>
    rw [State.lowestNumber?, found, le_antisymm (State.lowest?_le found passes) (least m (State.lowest?_spec found))]
    rfl

theorem State.lowestNumber?_isSome_iff : (s.lowestNumber? p).isSome = true ↔ ∃ n, p n (s.tool n) = true := by
  rw [State.lowestNumber?, Option.isSome_map, ← Option.ne_none_iff_isSome, ne_eq, s.lowest?_eq_none]
  simp

end

/-! ### The parts of a list of conditions -/

theorem filter_condOf (j k : Nat) (w : Option Nat) :
    (condOf j w).filter (·.code == k) = if j = k then condOf j w else [] := by
  cases w <;> by_cases same : j = k <;> simp [condOf, same]

theorem filter_condWith (j k : Nat) (on : Bool) (w : Option Nat) :
    (condWith j on w).filter (·.code == k) = if j = k then condWith j on w else [] := by
  cases on <;> by_cases same : j = k <;> simp [condWith, same]

theorem codes_condOf (k : Nat) (w : Option Nat) : ((condOf k w).map (·.code)).Sublist [k] := by
  cases w
  · exact List.nil_sublist _
  · exact .refl _

theorem codes_condWith (k : Nat) (on : Bool) (w : Option Nat) : ((condWith k on w).map (·.code)).Sublist [k] := by
  cases on
  · exact List.nil_sublist _
  · exact .refl _

theorem codes_append {cs ds : List Condition} {ks js : List Nat} (first : (cs.map (·.code)).Sublist ks)
    (rest : (ds.map (·.code)).Sublist js) : ((cs ++ ds).map (·.code)).Sublist (ks ++ js) := by
  rw [List.map_append]
  exact first.append rest

section
variable {cs : List Condition} {k : Nat}

/-- A code is pending exactly when its part of the list is not empty. -/
theorem mem_codes_iff {part : List Condition} (own : cs.filter (·.code == k) = part) :
    k ∈ cs.map (·.code) ↔ part ≠ [] := by
  subst own
  simp

theorem mem_of_mem_part {part : List Condition} (own : cs.filter (·.code == k) = part) {d : Condition} (h : d ∈ part) :
    d ∈ cs := List.mem_of_mem_filter (own ▸ h)

/-- A code that stands in the list while a test holds, with the parameter that the state behind it names. -/
theorem pending_condWith {on : Bool} {w : Option Nat} {holds : Prop} (own : cs.filter (·.code == k) = condWith k on w)
    (test : on = true ↔ holds) :
    (k ∈ cs.map (·.code) ↔ holds) ∧ (holds → { code := k, param := w } ∈ cs) := by
  rw [mem_codes_iff own, ← test]
  refine ⟨?_, fun h => mem_of_mem_part own ?_⟩
  · cases on <;> simp [condWith]
  · simp [condWith, h]

theorem pending_condOf {w : Option Nat} (own : cs.filter (·.code == k) = condOf k w) :
    (k ∈ cs.map (·.code) ↔ w.isSome = true) ∧ ∀ v, w = some v → { code := k, param := some v } ∈ cs := by
  rw [mem_codes_iff own]
  refine ⟨?_, fun v h => mem_of_mem_part own ?_⟩
  · cases w <;> simp [condOf]
  · simp [condOf, h]

/-- A code that stands in the list while a record qualifies, with the lowest such record (R187, R190). -/
theorem pending_lowest {s : State} {p : RecNo → ToolRecord → Bool} {holds : RecNo → Prop}
    (own : cs.filter (·.code == k) = condOf k (s.lowestNumber? p)) (test : ∀ n, p n (s.tool n) = true ↔ holds n) :
    (k ∈ cs.map (·.code) ↔ ∃ n, holds n) ∧
      ∀ n, holds n → (∀ m, holds m → n ≤ m) → { code := k, param := some n.val } ∈ cs := by
  obtain ⟨pending, listed⟩ := pending_condOf own
  simp only [← test]
  exact ⟨pending.trans State.lowestNumber?_isSome_iff,
    fun n passes least => listed _ (State.lowestNumber?_eq_some passes least)⟩

/-- A code that stands in the list while an entry of a queue qualifies, with the first such entry (R187, R189). -/
theorem pending_first {α : Type} {q : List α} {p : α → Bool} {number : α → Nat} {holds : α → Prop}
    (own : cs.filter (·.code == k) = condOf k ((q.find? p).map number)) (test : ∀ x, p x = true ↔ holds x) :
    (k ∈ cs.map (·.code) ↔ ∃ x ∈ q, holds x) ∧
      ∀ before x after, q = before ++ x :: after → (∀ w ∈ before, ¬ holds w) → holds x →
        { code := k, param := some (number x) } ∈ cs := by
  obtain ⟨pending, listed⟩ := pending_condOf own
  simp only [← test]
  refine ⟨by simp [pending], fun before x after split failed passes => listed _ (Option.map_eq_some_iff.2 ⟨x, ?_, rfl⟩)⟩
  exact List.find?_eq_some_iff_append.2 ⟨passes, before, after, split, fun w hw => by simpa using failed w hw⟩

end

/-! ### The conditions of each role (R187 to R190) -/

section
variable {s : State} {l : LinkId}

theorem State.conditions_cell (role : (s.link l).role = .cell) : s.conditions l = s.cellConditions l := by
  rw [State.conditions, role]

theorem State.conditions_presetter (role : (s.link l).role = .presetter) : s.conditions l = s.presetterConditions := by
  rw [State.conditions, role]

theorem State.conditions_crib (role : (s.link l).role = .crib) : s.conditions l = s.cribConditions := by
  rw [State.conditions, role]

theorem State.conditions_supervisor (role : (s.link l).role = .supervisor) :
    s.conditions l = s.supervisorConditions := by
  rw [State.conditions, role]

theorem State.conditions_disabled (role : (s.link l).role = .disabled) : s.conditions l = [] := by
  rw [State.conditions, role]

/-- The highest condition stands first: the codes of every role's list rise (R186, R192). -/
theorem State.codes_conditions (s : State) (l : LinkId) :
    ((s.conditions l).map (·.code)).Sublist [1, 2, 3, 4, 5, 6, 7] := by
  cases role : (s.link l).role with
  | cell =>
    rw [State.conditions_cell role, State.cellConditions]
    exact (codes_append (codes_append (codes_append (codes_condOf 1 _) (codes_condOf 2 _)) (codes_condOf 3 _))
      (codes_condOf 4 _)).trans (by decide)
  | presetter =>
    rw [State.conditions_presetter role, State.presetterConditions]
    exact (codes_append (codes_append (codes_append (codes_append (codes_condWith 1 _ _) (codes_condWith 2 _ _))
      (codes_condWith 3 _ _)) (codes_condWith 4 _ _)) (codes_condWith 5 _ _)).trans (by decide)
  | crib =>
    rw [State.conditions_crib role, State.cribConditions]
    exact (codes_append (codes_condOf 1 _) (codes_condWith 2 _ _)).trans (by decide)
  | supervisor =>
    rw [State.conditions_supervisor role, State.supervisorConditions]
    exact codes_append (codes_append (codes_append (codes_append (codes_append (codes_append (codes_condWith 1 _ _)
      (codes_condOf 2 _)) (codes_condOf 3 _)) (codes_condWith 4 _ _)) (codes_condWith 5 _ _)) (codes_condOf 6 _))
      (codes_condWith 7 _ _)
  | disabled =>
    rw [State.conditions_disabled role]
    exact List.nil_sublist _

/-- A CELL link's list, code by code (R187). -/
theorem State.parts_cell (role : (s.link l).role = .cell) :
    (s.conditions l).filter (·.code == 1) = condOf 1 (s.lowestNumber? fun n r => r.recalled &&
      (r.inMachineOn l || s.handoffs.any fun h => h.record == n && h.link == l)) ∧
    (s.conditions l).filter (·.code == 2) = condOf 2 (s.lowestNumber? fun _ r => r.inMachineOn l && r.lifeRem == 0) ∧
    (s.conditions l).filter (·.code == 3) =
      condOf 3 ((s.tickets.find? fun t => t.link == l && t.phase == .failed).map (·.number)) ∧
    (s.conditions l).filter (·.code == 4) =
      condOf 4 ((s.handoffs.find? fun h => h.link == l && h.phase == .staged).map (·.number)) := by
  simp [State.conditions_cell role, State.cellConditions, filter_condOf]

/-- The PRESETTER link's list, code by code (R188). -/
theorem State.parts_presetter (role : (s.link l).role = .presetter) :
    (s.conditions l).filter (·.code == 1) = condWith 1 s.stale none ∧
    (s.conditions l).filter (·.code == 2) =
      condWith 2 (s.engine.phase == .stationDone) (s.currentJob?.map (·.number)) ∧
    (s.conditions l).filter (·.code == 3) = condWith 3 s.unread (s.log.getLast?.map (·.job)) ∧
    (s.conditions l).filter (·.code == 4) = condWith 4 (s.engine.phase == .offered) (s.currentJob?.map (·.number)) ∧
    (s.conditions l).filter (·.code == 5) = condWith 5 s.guardIsOpen none := by
  simp [State.conditions_presetter role, State.presetterConditions, condIf, filter_condWith]

/-- The CRIB link's list, code by code (R189). -/
theorem State.parts_crib (role : (s.link l).role = .crib) :
    (s.conditions l).filter (·.code == 1) =
      condOf 1 (if s.doorIsOpen then none else s.oldestReleased?.map (·.number)) ∧
    (s.conditions l).filter (·.code == 2) = condWith 2 s.doorIsOpen none := by
  simp [State.conditions_crib role, State.cribConditions, condIf, filter_condOf, filter_condWith]

/-- A SUPERVISOR link's list, code by code (R190). -/
theorem State.parts_supervisor (role : (s.link l).role = .supervisor) :
    (s.conditions l).filter (·.code == 1) = condWith 1 s.retentionLost none ∧
    (s.conditions l).filter (·.code == 2) = condOf 2 (s.lowestNumber? fun _ r => r.state == .check) ∧
    (s.conditions l).filter (·.code == 3) = condOf 3 (s.lowestNumber? fun _ r => r.state == .quarantine) ∧
    (s.conditions l).filter (·.code == 4) = condWith 4 s.stale none ∧
    (s.conditions l).filter (·.code == 5) = condWith 5 (s.reference.lastOutcome == .driftRejected) none ∧
    (s.conditions l).filter (·.code == 6) = condOf 6 (s.lowestNumber? fun _ r => r.state == .worn) ∧
    (s.conditions l).filter (·.code == 7) = condWith 7 (!s.hall.set) none := by
  simp [State.conditions_supervisor role, State.supervisorConditions, condIf, filter_condOf, filter_condWith]

/-- A RELEASED order is pending while the door is closed, with the oldest as its parameter (R189). -/
theorem State.pending_released {cs : List Condition} {k : Nat}
    (own : cs.filter (·.code == k) = condOf k (if s.doorIsOpen then none else s.oldestReleased?.map (·.number))) :
    (k ∈ cs.map (·.code) ↔ s.doorIsOpen = false ∧ ∃ o ∈ s.orders, o.phase = .released) ∧
      ∀ before o after, s.doorIsOpen = false → s.orders = before ++ o :: after →
        (∀ w ∈ before, w.phase ≠ .released) → o.phase = .released → { code := k, param := some o.number } ∈ cs := by
  cases door : s.doorIsOpen with
  | true =>
    rw [door, if_pos rfl] at own
    exact ⟨(pending_condOf own).1.trans (by simp), nofun⟩
  | false =>
    rw [door, if_neg Bool.false_ne_true] at own
    obtain ⟨pending, oldest⟩ := pending_first (holds := fun o : Order => o.phase = .released) own fun o => beq_iff_eq
    exact ⟨by simpa using pending, fun before o after _ => oldest before o after⟩

theorem State.conditions_received (s : State) (l m : LinkId) : (s.received l).conditions m = s.conditions m := by
  rw [State.conditions, State.conditions, State.role_received]
  rfl

end

/-! ### SET_MASK (R193) -/

theorem maskGood_iff {role : Role} {count : Byte} {enables : List Byte} : maskGood role count enables = true ↔
    count.toNat = role.conditionCount ∧ enables.length = count.toNat ∧ ∀ e ∈ enables, e.toNat ≤ 1 := by
  simp [maskGood, and_assoc]

/-- An enable that is 0 or 1 is its mark's byte (log 19). -/
theorem bFlag_beq_one {e : Byte} (small : e.toNat ≤ 1) : bFlag (e == 1) = [e] := by
  have cases : e = 0 ∨ e = 1 := by bv_omega
  rcases cases with rfl | rfl <;> rfl

/-- The mask is answered as it was sent. -/
theorem flatMap_bFlag_mask {enables : List Byte} (small : ∀ e ∈ enables, e.toNat ≤ 1) :
    (enables.map fun e => e == 1).flatMap bFlag = enables := by
  induction enables with
  | nil => rfl
  | cons e es ih =>
    obtain ⟨first, rest⟩ := List.forall_mem_cons.1 small
    rw [List.map_cons, List.flatMap_cons, bFlag_beq_one first, ih rest]
    rfl

theorem opConditionPoll_eq (l : LinkId) (s : State) : opConditionPoll l s = (s, okWith (
    (match s.conditions l with
      | [] => [0, 0, 0, 0]
      | d :: _ => b1 d.code ++ bOpt 2 d.param) ++
    b1 (s.conditions l).length ++ ((s.conditions l).map (·.code)).flatMap b1 ++ (s.link l).mask.flatMap bFlag)) := by
  rw [opConditionPoll, pollBytes, List.flatMap_map]
  cases s.conditions l <;> rfl

theorem opSetMask_good {s : State} {l : LinkId} {count : Byte} {enables : List Byte}
    (good : maskGood (s.link l).role count enables = true) : opSetMask l count enables s =
      (s.changeLink l fun k => { k with mask := enables.map fun e => e == 1 }, okWith enables) := by
  obtain ⟨-, -, small⟩ := maskGood_iff.1 good
  rw [opSetMask, if_pos good]
  dsimp only
  rw [flatMap_bFlag_mask small]

theorem opSetMask_bad {s : State} {l : LinkId} {count : Byte} {enables : List Byte}
    (bad : ¬ maskGood (s.link l).role count enables = true) : opSetMask l count enables s = (s, reply .outOfRange) :=
  if_neg bad

/-- Settles O48: each role's list is cut into its codes' parts, and each part shows the state it stands for. -/
theorem pollReportsTheConditions : Obligations.PollReportsTheConditions := by
  intro s c t cs pending plain lowest
  have seen : t.conditions c.link = cs := s.conditions_received _ _
  have role : (t.link c.link).role = (s.link c.link).role := s.role_received _ _
  refine ⟨fun taken => exec_taken taken rfl rfl ?_, List.Pairwise.sublist (s.codes_conditions c.link) (by decide),
    State.conditions_disabled, fun cell => ?_, fun crib => ?_, fun presetter => ?_, fun supervisor => ?_,
    fun count enables taken => ⟨fun good => exec_taken taken rfl rfl (opSetMask_good (s := t) ?_),
      fun bad => exec_taken taken rfl rfl (opSetMask_bad (s := t) ?_)⟩, fun taken => exec_taken taken rfl rfl rfl⟩
  · show opConditionPoll c.link t = _
    rw [opConditionPoll_eq, seen, s.mask_received]
    rfl
  · intro failed staged
    obtain ⟨recalled, spent, failures, stagings⟩ := State.parts_cell cell
    obtain ⟨failing, firstFailed⟩ := pending_first (holds := failed) failures fun k => by simp [failed]
    obtain ⟨staging, firstStaged⟩ := pending_first (holds := staged) stagings fun h => by simp [staged]
    exact ⟨pending_lowest recalled fun n => by simp [ToolRecord.inMachineOn_iff],
      pending_lowest spent fun n => by
        rw [Bool.and_eq_true, ToolRecord.inMachineOn_iff, beq_iff_eq, and_right_comm, and_assoc],
      failing, firstFailed, staging, firstStaged⟩
  · obtain ⟨released, door⟩ := State.parts_crib crib
    obtain ⟨releasing, oldest⟩ := State.pending_released released
    exact ⟨releasing, oldest, pending_condWith door Iff.rfl⟩
  · obtain ⟨stale, done, unread, offered, guard⟩ := State.parts_presetter presetter
    obtain ⟨doing, doneJob⟩ := pending_condWith done beq_iff_eq
    obtain ⟨reading, readJob⟩ := pending_condWith unread Iff.rfl
    obtain ⟨offering, offeredJob⟩ := pending_condWith offered beq_iff_eq
    refine ⟨pending_condWith stale Iff.rfl, doing, fun j phase current => ?_, reading, fun e unread last => ?_,
      offering, fun j phase current => ?_, pending_condWith guard Iff.rfl⟩
    · simpa [current] using doneJob phase
    · simpa [last] using readJob unread
    · simpa [current] using offeredJob phase
  · obtain ⟨lost, check, quarantine, stale, drift, worn, unset⟩ := State.parts_supervisor supervisor
    exact ⟨pending_condWith lost Iff.rfl, pending_lowest check fun n => beq_iff_eq,
      pending_lowest quarantine fun n => beq_iff_eq, pending_condWith stale Iff.rfl,
      pending_condWith drift beq_iff_eq, pending_lowest worn fun n => beq_iff_eq,
      pending_condWith unset (by rw [Bool.not_eq_true'])⟩
  · rw [role]
    exact maskGood_iff.2 good
  · rw [role]
    exact mt maskGood_iff.1 bad

end Sys2Proof.Machine

/-! PROOF. The state at reset meets every invariant (R6 to R8, R18, R62, R122, R166, R195, R197, R200, R208). -/

namespace Sys2Proof.Machine

-- One proof after another: side by side their threads need more memory than the checks allow.
set_option Elab.async false

/-- No record passes a test that every record fails. -/
theorem State.lowestNumber?_eq_none {s : State} {p : RecNo → ToolRecord → Bool} (fails : ∀ n, p n (s.tool n) = false) :
    s.lowestNumber? p = none := by
  rw [State.lowestNumber?, (s.lowest?_eq_none p).2 fails]
  rfl

theorem State.tool_reset (n : RecNo) : State.reset.tool n = ToolRecord.blank := by
  simp [State.reset, State.tool]

/-- Nothing is pending on a CELL link of an empty table with no ticket and no handoff entry (R187). -/
theorem State.cellConditions_reset (l : LinkId) : State.reset.cellConditions l = [] := by
  rw [State.cellConditions, State.lowestNumber?_eq_none fun n => by rw [State.tool_reset]; rfl,
    State.lowestNumber?_eq_none fun n => by rw [State.tool_reset]; rfl]
  rfl

/-- The lines of S0 and S3 are driven: the reference is stale, the latch is set, and the clock is unset (R188, R190). -/
theorem State.attentionJudged_reset : State.reset.AttentionJudged := by
  refine State.reset.attentionJudged_iff.2 fun _ l => ?_
  match l with
  | 0 => rfl
  | 1 => rfl
  | 2 =>
    have none : State.reset.conditions 2 = [] := State.cellConditions_reset 2
    rw [State.judgedLine, none]
    rfl
  | 3 => rfl

theorem Settings.admits_defaults (i : SettingId) : i.Admits (Settings.defaults.get i) := by
  unfold SettingId.Admits
  cases i <;> decide

theorem State.settingsRanged_reset : State.reset.SettingsRanged where
  active := Settings.admits_defaults
  parked i v held := by cases i <;> cases held
  angle := by decide

theorem State.tagsProper_reset : State.reset.TagsProper :=
  ⟨fun n _ => by rw [State.tool_reset]; rfl, fun m n tagged => absurd (by rw [State.tool_reset]; rfl) tagged⟩

theorem State.pocketsSingle_reset : State.reset.PocketsSingle := by
  intro m n p held
  rw [State.tool_reset] at held
  cases held

theorem State.rolesSingle_reset : State.reset.RolesSingle := by
  unfold State.RolesSingle
  decide

/-- Settles O60: the table is blank and the collections are empty; the roles and the settings are looked at one by
one. -/
theorem resetMeetsTheInvariants : Obligations.ResetMeetsTheInvariants := by
  have lives : State.reset.LifeBounded := fun n => by rw [State.tool_reset]; exact le_rfl
  have priors : State.reset.PriorsProper := fun _ held => absurd held List.not_mem_nil
  exact ⟨State.attentionJudged_reset, ⟨by decide, by decide, by decide, by decide, by decide⟩,
    ⟨by decide, .nil, fun _ held => absurd held List.not_mem_nil, .nil⟩, State.settingsRanged_reset, lives,
    State.tagsProper_reset, priors, State.pocketsSingle_reset, ⟨.nil, .nil⟩, ⟨.nil, List.not_mem_nil⟩,
    State.rolesSingle_reset, ⟨fun _ => rfl, Nat.zero_le _⟩⟩

end Sys2Proof.Machine

/-! PROOF. Main power gates the commands (R212), and the values an active setting's change leaves: one at a time, and
the parked ones together (R46, R56, R58). -/

namespace Sys2Proof.Machine

-- One proof after another: side by side their threads need more memory than the checks allow.
set_option Elab.async false

/-! ### Main power (R212; logs 9, 10) -/

theorem exec_answers_next (i : Instr) (s : State) : ∃ t, exec i s = .next t := by
  cases i <;> exact ⟨_, rfl⟩

/-- While main power is down only a start and the fall of the backup supply do anything. -/
theorem exec_down {i : Instr} {s : State} (down : s.mainUp = false) (running : ∀ p, i ≠ .start p)
    (supply : i ≠ .backupSupplyLoss) : exec i s = .next s := by
  cases i
  case start p => exact absurd rfl (running p)
  case backupSupplyLoss => exact absurd rfl supply
  case mainPowerLoss =>
    show Host.Outcome.next { s with mainUp := false } = .next s
    rw [← down]
  case dispenseTimeout order => exact State.event_down (fun t => t.dispenseExpires order.toNat) _ down
  case loadTimeout handoff => exact State.event_down (fun t => t.loadExpires handoff.toNat) _ down
  all_goals exact State.event_down _ _ down

/-- Settles O3: a supply's loss is its own equation, and every other command but a start is gated by main power. -/
theorem powerGatesEveryCommand : Obligations.PowerGatesEveryCommand := fun s =>
  ⟨fun i => exec_answers_next i s, fun down _ running supply => exec_down down running supply, rfl,
    fun down => congrArg Host.Outcome.next (if_neg (Bool.eq_false_iff.1 down)),
    fun up => congrArg Host.Outcome.next (if_pos up)⟩

/-! ### The settings as their values (R208) -/

theorem Settings.ext_get {t u : Settings} (h : ∀ i, t.get i = u.get i) : t = u := by
  have fields := And.intro (h .dwell) <| And.intro (h .deadTime) <| And.intro (h .angleTol) <|
    And.intro (h .countsPerRev) <| And.intro (h .zScale) <| And.intro (h .xScale) <| And.intro (h .edgePolarity) <|
    And.intro (h .guardRef) <| And.intro (h .stationTimeout) <| And.intro (h .calInterval) <|
    And.intro (h .driftLimit) <| And.intro (h .autoCal) <| And.intro (h .dispenseTimeout) <|
    And.intro (h .rePreset) <| And.intro (h .doorRef) (h .loadTimeout)
  cases t
  cases u
  simpa [Settings.get] using fields

theorem Settings.put_get (t : Settings) (i : SettingId) : t.put i (t.get i) = t := by
  cases i <;> rfl

/-- Emptying a slot that is empty changes nothing (R58). -/
theorem Parked.put_none_of_empty {p : Parked} {i : SettingId} (empty : p.get i = none) : p.put i none = p := by
  cases i <;> cases p <;> cases empty <;> rfl

/-! ### The capture unit under new settings (R46, R56) -/

/-- The state the qualifier takes from the lines (R46). -/
def freshQualifier (n : Lines) (t : Settings) : Qualifier :=
  if n.guardLevel != (t.guardRef == 1) then .guarded
  else if n.edgeLevel == (t.edgePolarity == 1) then .heldActive else .listening

/-- Whether one of the settings that the qualifier is taken afresh for differs (R56). -/
def Settings.requalifies (new old : Settings) : Bool :=
  new.dwell != old.dwell || new.deadTime != old.deadTime || new.edgePolarity != old.edgePolarity ||
    new.guardRef != old.guardRef

/-- What a capture unit makes of new measurement settings (R56). -/
def Capture.under (c : Capture) (n : Lines) (old new : Settings) : Capture :=
  { c with
    checkPending := c.checkPending || decide (new ≠ old)
    qualifier := if new.requalifies old then freshQualifier n new else c.qualifier
    a := if new.countsPerRev = old.countsPerRev then c.a else c.a % new.countsPerRev }

/-- The state with new settings, its capture unit under them (R56). -/
def State.withSettings (s : State) (new : Settings) : State :=
  { s with settings := new, capture := s.capture.under s.lines s.settings new }

theorem Settings.requalifies_eq_false_iff {new old : Settings} : new.requalifies old = false ↔
    new.dwell = old.dwell ∧ new.deadTime = old.deadTime ∧ new.edgePolarity = old.edgePolarity ∧
      new.guardRef = old.guardRef := by
  simp [Settings.requalifies, and_assoc]

/-- The qualifier is the same from the lines while none of the settings it is taken afresh for differs. -/
theorem freshQualifier_of_not_requalifies (n : Lines) {new old : Settings} (h : new.requalifies old = false) :
    freshQualifier n new = freshQualifier n old := by
  obtain ⟨-, -, edge, guard⟩ := Settings.requalifies_eq_false_iff.1 h
  rw [freshQualifier, freshQualifier, edge, guard]

theorem State.withSettings_self (s : State) : s.withSettings s.settings = s := by
  simp [State.withSettings, Capture.under, Settings.requalifies]

/-- A measurement setting's value that becomes active, by the setting's part in the capture unit (R56). -/
theorem State.activate_cases (s : State) {i : SettingId} (measures : i.isMeasurement = true) (v : Nat) :
    s.activate i v =
      if s.settings.get i = v then s
      else if i = .dwell ∨ i = .deadTime ∨ i = .edgePolarity ∨ i = .guardRef then
        { s with settings := s.settings.put i v, capture := { s.capture with
          checkPending := true, qualifier := freshQualifier s.lines (s.settings.put i v) } }
      else if i = .countsPerRev then
        { s with settings := s.settings.put i v, capture := { s.capture with
          checkPending := true, a := s.capture.a % v } }
      else { s with settings := s.settings.put i v, capture := { s.capture with checkPending := true } } := by
  unfold State.activate
  split
  · rfl
  · cases i <;> cases measures <;> rfl

/-- A measurement setting's value becomes active as new settings do (R56). -/
theorem State.activate_eq_withSettings (s : State) {i : SettingId} (measures : i.isMeasurement = true) (v : Nat) :
    s.activate i v = s.withSettings (s.settings.put i v) := by
  by_cases same : s.settings.get i = v
  · rw [State.activate, if_pos same, ← same, Settings.put_get, s.withSettings_self]
  · have other : v ≠ s.settings.get i := Ne.symm same
    have moved : s.settings.put i v ≠ s.settings := fun e => same <| by
      rw [← e, Settings.get_put, if_pos rfl]
    rw [s.activate_cases measures, if_neg same, State.withSettings, Capture.under, decide_eq_true moved, Bool.or_true]
    cases i <;> cases measures <;> dsimp only [Settings.get] at other <;>
      simp [Settings.requalifies, Settings.put, other]

/-- New settings taken in two steps are the new settings, when the first step takes each value or leaves it. -/
theorem Capture.under_under (c : Capture) (n : Lines) {old mid new : Settings}
    (between : ∀ i, mid.get i = old.get i ∨ mid.get i = new.get i) :
    (c.under n old mid).under n mid new = c.under n old new := by
  have marked : (c.checkPending || decide (mid ≠ old) || decide (new ≠ mid)) =
      (c.checkPending || decide (new ≠ old)) := by
    have moved : (mid ≠ old ∨ new ≠ mid) ↔ new ≠ old := by
      refine ⟨fun step same => ?_, fun moved => ?_⟩
      · have still : mid = old := Settings.ext_get fun i => (between i).elim id fun e => e.trans (by rw [same])
        exact step.elim (fun k => k still) fun k => k (same.trans still.symm)
      · by_cases still : mid = old
        · exact .inr (still ▸ moved)
        · exact .inl still
    rw [Bool.or_assoc, ← Bool.decide_or, decide_eq_decide.2 moved]
  have qualifier : (if new.requalifies mid then freshQualifier n new
      else if mid.requalifies old then freshQualifier n mid else c.qualifier) =
      if new.requalifies old then freshQualifier n new else c.qualifier := by
    cases last : new.requalifies mid with
    | true =>
      have moved : new.requalifies old = true := by
        by_contra still
        obtain ⟨dwell, dead, edge, guard⟩ := Settings.requalifies_eq_false_iff.1 (Bool.eq_false_iff.2 still)
        have kept {i : SettingId} (e : new.get i = old.get i) : new.get i = mid.get i :=
          ((between i).elim (fun k => k.trans e.symm) id).symm
        rw [Settings.requalifies_eq_false_iff.2 ⟨kept (i := .dwell) dwell, kept (i := .deadTime) dead,
          kept (i := .edgePolarity) edge, kept (i := .guardRef) guard⟩] at last
        cases last
      rw [if_pos rfl, if_pos moved]
    | false =>
      obtain ⟨dwell, dead, edge, guard⟩ := Settings.requalifies_eq_false_iff.1 last
      have same : new.requalifies old = mid.requalifies old := by
        rw [Settings.requalifies, Settings.requalifies, dwell, dead, edge, guard]
      rw [if_neg Bool.false_ne_true, same, freshQualifier_of_not_requalifies _ last]
  have angle : (if new.countsPerRev = mid.countsPerRev
      then if mid.countsPerRev = old.countsPerRev then c.a else c.a % mid.countsPerRev
      else (if mid.countsPerRev = old.countsPerRev then c.a else c.a % mid.countsPerRev) % new.countsPerRev) =
      if new.countsPerRev = old.countsPerRev then c.a else c.a % new.countsPerRev := by
    have circle : mid.countsPerRev = old.countsPerRev ∨ mid.countsPerRev = new.countsPerRev := between .countsPerRev
    rcases circle with same | same
    · rw [same, if_pos rfl]
    · rw [same, if_pos rfl]
  simp only [Capture.under, marked, qualifier, angle]

/-! ### The parked values (R58) -/

/-- The active values with values of some settings put in (R58). -/
def Settings.putAll (t : Settings) (f : SettingId → Nat) (is : List SettingId) : Settings :=
  is.foldl (fun u i => u.put i (f i)) t

theorem Settings.get_putAll (f : SettingId → Nat) (k : SettingId) (is : List SettingId) :
    ∀ t : Settings, (t.putAll f is).get k = if k ∈ is then f k else t.get k := by
  induction is with
  | nil => intro t; rfl
  | cons i is ih =>
    intro t
    refine (ih (t.put i (f i))).trans ?_
    rw [Settings.get_put]
    by_cases later : k ∈ is
    · rw [if_pos later, if_pos (List.mem_cons_of_mem _ later)]
    · by_cases now : k = i
      · rw [if_neg later, if_pos now, if_pos (List.mem_cons.2 (.inl now)), now]
      · rw [if_neg later, if_neg now, if_neg (by simp [later, now])]

/-- The value a setting has once its slot is applied (R58). -/
def State.applied (s : State) (i : SettingId) : Nat := (s.parked.get i).getD (s.settings.get i)

theorem State.applySlot_eq_withSettings (s : State) {i : SettingId} (measures : i.isMeasurement = true) :
    s.applySlot i =
      { s.withSettings (s.settings.put i (s.applied i)) with parked := s.parked.put i none } := by
  cases held : s.parked.get i with
  | none =>
    rw [State.applySlot, State.applied, held, Option.getD_none, Settings.put_get, s.withSettings_self,
      Parked.put_none_of_empty held]
  | some v =>
    rw [State.applySlot, State.applied, held, Option.getD_some, ← s.activate_eq_withSettings measures]

/-- Slots applied one after another: the values become active together, and the slots are emptied (R58). -/
theorem State.foldl_applySlot {is : List SettingId} (distinct : is.Nodup)
    (measures : ∀ i ∈ is, i.isMeasurement = true) : ∀ s : State, is.foldl State.applySlot s =
      { s.withSettings (s.settings.putAll s.applied is) with parked := is.foldl (fun p i => p.put i none) s.parked } := by
  induction is with
  | nil => exact fun s => congrArg (fun t : State => { t with parked := s.parked }) s.withSettings_self.symm
  | cons i is ih =>
    intro s
    obtain ⟨once, rest⟩ := List.nodup_cons.1 distinct
    have first := s.applySlot_eq_withSettings (measures i List.mem_cons_self)
    have values : (s.applySlot i).settings.putAll (s.applySlot i).applied is = s.settings.putAll s.applied (i :: is) := by
      refine Settings.ext_get fun k => ?_
      rw [Settings.get_putAll, Settings.get_putAll, first]
      show (if k ∈ is then ((s.parked.put i none).get k).getD ((s.settings.put i (s.applied i)).get k)
        else (s.settings.put i (s.applied i)).get k) = _
      rw [Settings.get_put, Parked.get_put]
      by_cases now : k = i
      · rw [if_neg (now ▸ once), if_pos now, if_pos (List.mem_cons.2 (.inl now)), now]
      · simp only [now, false_and, if_false, List.mem_cons, false_or]
        rfl
    have between (k : SettingId) : (s.settings.put i (s.applied i)).get k = s.settings.get k ∨
        (s.settings.put i (s.applied i)).get k = (s.settings.putAll s.applied (i :: is)).get k := by
      rw [Settings.get_put, Settings.get_putAll]
      by_cases now : k = i
      · exact .inr (by rw [if_pos now, if_pos (List.mem_cons.2 (.inl now)), now])
      · exact .inl (if_neg now)
    rw [List.foldl_cons, ih rest fun k later => measures k (List.mem_cons_of_mem _ later), values, first]
    exact congrArg (fun c => { s with
      settings := s.settings.putAll s.applied (i :: is), capture := c
      parked := is.foldl (fun p i => p.put i none) (s.parked.put i none) })
      (Capture.under_under s.capture s.lines between)

/-- The active values once every parked value is among them (R58). -/
def Settings.withParked (t : Settings) (p : Parked) : Settings :=
  { t with
    dwell := p.dwell.getD t.dwell, deadTime := p.deadTime.getD t.deadTime, angleTol := p.angleTol.getD t.angleTol
    countsPerRev := p.countsPerRev.getD t.countsPerRev, zScale := p.zScale.getD t.zScale
    xScale := p.xScale.getD t.xScale, edgePolarity := p.edgePolarity.getD t.edgePolarity
    guardRef := p.guardRef.getD t.guardRef }

/-- The parked values, applied: the capture unit goes under the values together, and every slot is empty (R58). -/
theorem State.applyParked_eq_withSettings (s : State) : s.applyParked =
    { s.withSettings (s.settings.withParked s.parked) with parked := Parked.empty } :=
  State.foldl_applySlot (by decide) (by decide) s

/-! ### SET_SETTING and GET_SETTING (R208, R209) -/

section
variable {number : Byte} {value : BitVec 32} {i : SettingId}

/-- A written value is clamped exactly when it lies outside its setting's range (R4, R208). -/
theorem okOrClamped_ranged (i : SettingId) (n : Nat) (results : List Byte) :
    okOrClamped (i.ranged n != n) results =
      { code := if i.range.1 ≤ n ∧ n ≤ i.range.2 then .ok else .okClamped, results := results } := by
  have ends : i.range.1 ≤ i.range.2 := by cases i <;> decide
  have inside : i.ranged n = n ↔ i.range.1 ≤ n ∧ n ≤ i.range.2 := by
    rw [SettingId.ranged, clamp_eq_self_iff]
    omega
  by_cases held : i.range.1 ≤ n ∧ n ≤ i.range.2
  · rw [inside.2 held, bne_self_eq_false, if_pos held]
    rfl
  · rw [bne_iff_ne.2 (mt inside.1 held), if_neg held]
    rfl

theorem opSetSetting_busy {s : State} (named : settingOf? number.toNat = some i) (measures : i.isMeasurement = true)
    (busy : s.engine.phase ≠ .idle) : opSetSetting number value s =
      ({ s with parked := s.parked.put i (some (i.ranged value.toNat)) },
        { code := .parked, results := settingResult number.toNat (i.ranged value.toNat) }) := by
  simp only [opSetSetting, named, measures, if_neg busy, if_true]

theorem opSetSetting_idle {s : State} (named : settingOf? number.toNat = some i) (measures : i.isMeasurement = true)
    (idle : s.engine.phase = .idle) : opSetSetting number value s =
      (s.activate i (i.ranged value.toNat), okOrClamped (i.ranged value.toNat != value.toNat)
        (settingResult number.toNat (i.ranged value.toNat))) := by
  simp only [opSetSetting, named, measures, if_pos idle, if_true]

theorem opSetSetting_atOnce {s : State} (named : settingOf? number.toNat = some i) (other : i.isMeasurement = false) :
    opSetSetting number value s =
      (s.writeAtOnce i (i.ranged value.toNat), okOrClamped (i.ranged value.toNat != value.toNat)
        (settingResult number.toNat (i.ranged value.toNat))) := by
  simp only [opSetSetting, named, other, Bool.false_eq_true, if_false]

theorem opGetSetting_named {s : State} (named : settingOf? number.toNat = some i) : opGetSetting number s =
    (s, okWith (b1 number.toNat ++ b4 (s.settings.get i) ++ bOpt 4 (s.parked.get i))) := by
  simp only [opGetSetting, named]

theorem opGetSetting_unnamed {s : State} (unnamed : settingOf? number.toNat = none) :
    opGetSetting number s = (s, reply .outOfRange) := by
  simp only [opGetSetting, unnamed]

end

/-- What a setting written at once does beyond its value, by which setting it is (R109, R150, R208). -/
theorem State.writeAtOnce_eq (s : State) (i : SettingId) (v : Nat) : s.writeAtOnce i v =
    if i = .autoCal ∧ s.settings.autoCal ≠ 1 ∧ v = 1
    then State.settle (State.autoCalCheck { s with settings := s.settings.put i v }) false
    else if i = .doorRef ∧ s.doorIsOpen = true ∧ State.doorIsOpen { s with settings := s.settings.put i v } = false
    then State.settle { s with settings := s.settings.put i v } true
    else { s with settings := s.settings.put i v } := by
  have turnsOn : (s.settings.autoCal ≠ 1 ∧ (s.settings.put i v).autoCal = 1) ↔
      i = .autoCal ∧ s.settings.autoCal ≠ 1 ∧ v = 1 := by
    have put : (s.settings.put i v).autoCal = if .autoCal = i then v else s.settings.autoCal :=
      s.settings.get_put i .autoCal v
    by_cases named : i = .autoCal
    · rw [put, if_pos named.symm]
      simp [named]
    · rw [put, if_neg (Ne.symm named)]
      simp [named]
  have closes : (s.doorIsOpen && !State.doorIsOpen { s with settings := s.settings.put i v }) = true ↔
      i = .doorRef ∧ s.doorIsOpen = true ∧ State.doorIsOpen { s with settings := s.settings.put i v } = false := by
    rw [Bool.and_eq_true, Bool.not_eq_true', iff_and_self]
    rintro ⟨before, after⟩
    by_contra other
    have put : (s.settings.put i v).doorRef = s.settings.doorRef :=
      (s.settings.get_put i .doorRef v).trans (if_neg (Ne.symm other))
    rw [State.doorIsOpen, put] at after
    exact Bool.false_ne_true (after.symm.trans before)
  exact if_congr turnsOn rfl (if_congr closes rfl rfl)

/-- Settles O49: a written value is parked, active by its setting's part in the capture unit, or written at once; the
parked values are new settings taken together. -/
theorem settingsAreRangedAndParked : Obligations.SettingsAreRangedAndParked := by
  refine ⟨?_, State.applyParked_eq_withSettings⟩
  intro s c number value i taken named t v code done put marked afresh folded
  have ranged : i.ranged value.toNat = v := rfl
  refine ⟨fun measures busy => ?_, fun measures idle => ?_, fun other => ?_⟩
  · exact exec_taken taken rfl rfl (opSetSetting_busy (s := t) named measures busy)
  · refine exec_taken taken rfl rfl ((opSetSetting_idle (s := t) named measures idle).trans ?_)
    rw [okOrClamped_ranged, t.activate_cases measures]
    rfl
  · refine exec_taken taken rfl rfl ((opSetSetting_atOnce (s := t) named other).trans ?_)
    rw [okOrClamped_ranged, t.writeAtOnce_eq]
    rfl

theorem settingOf?_eq_none {n : Nat} (outside : n = 0 ∨ 17 ≤ n) : settingOf? n = none := by
  rcases outside with rfl | above
  · rfl
  · obtain ⟨m, rfl⟩ := Nat.exists_eq_add_of_le' above
    rfl

/-- The measurement settings are those numbered 1 to 8. -/
theorem SettingId.isMeasurement_iff {n : Nat} {i : SettingId} (named : settingOf? n = some i) :
    i.isMeasurement = true ↔ n ≤ 8 := by
  unfold settingOf? at named
  split at named <;> cases named <;> decide

/-- Only the measurement settings have a parked slot (R57). -/
theorem Parked.get_of_not_measurement (p : Parked) {i : SettingId} (other : i.isMeasurement = false) :
    p.get i = none := by
  cases i <;> cases other <;> rfl

/-- Settles O50: the owning rule answers the value and the slot; a marker of 0 goes before four zero bytes. -/
theorem getSettingReadsTheSetting : Obligations.GetSettingReadsTheSetting := by
  intro s c number taken t
  refine ⟨fun i named => ⟨?_, fun later => ?_⟩, fun outside => ?_⟩
  · refine exec_taken taken rfl rfl ((opGetSetting_named (s := t) named).trans ?_)
    show (t, okWith (b1 number.toNat ++ b4 (s.settings.get i) ++ bOpt 4 (s.parked.get i))) = _
    cases s.parked.get i <;> rfl
  · have other : ¬ number.toNat ≤ 8 := by omega
    exact s.parked.get_of_not_measurement (Bool.eq_false_iff.2 (mt (SettingId.isMeasurement_iff named).1 other))
  · exact exec_taken taken rfl rfl (opGetSetting_unnamed (s := t) (settingOf?_eq_none outside))

end Sys2Proof.Machine

/-! PROOF. The start (R213): what a cold start clears, the reset state as what it leaves, and what a warm start keeps,
repairs and chooses (R24, R75, R114, R121, R210). -/

namespace Sys2Proof.Machine

-- One proof after another: side by side their threads need more memory than the checks allow.
set_option Elab.async false

/-! ### What a start makes of its values (R58, R75, R114) -/

/-- With every slot empty there is nothing to apply (R58). -/
theorem State.applyParked_of_empty {s : State} (empty : s.parked = Parked.empty) : s.applyParked = s := by
  have none : s.settings.withParked s.parked = s.settings := by rw [empty]; rfl
  rw [s.applyParked_eq_withSettings, none, s.withSettings_self, ← empty]

/-- Without a job there is nothing to choose (R75). -/
theorem State.engineChoose_of_no_jobs {s : State} (empty : s.jobs = []) : s.engineChoose = s := by
  unfold State.engineChoose
  rw [empty]
  exact ite_self s

theorem State.autoCalCheck_of_not_due {s : State} (kept : s.autoCalDue = false) : s.autoCalCheck = s :=
  if_neg (Bool.eq_false_iff.1 kept)

/-! ### The cold start (R213) -/

/-- Settles O4: on the cleared memory the parked values, the check and the choice do nothing. -/
theorem coldStartClearsThePart : Obligations.ColdStartClearsThePart := by
  intro s p lost
  have guard : (s.coldMemory.startValues p).guardIsOpen = p.guardLine :=
    show (p.guardLine != false) = p.guardLine by simp
  have edge : (s.coldMemory.startValues p).edgeIsActive = p.edge :=
    show (p.edge == true) = p.edge by simp
  show Host.Outcome.next (s.start p) = _
  rw [State.start, if_pos lost, State.applyParked_of_empty rfl, State.autoCalCheck_of_not_due rfl,
    State.engineChoose_of_no_jobs rfl, State.requalify, guard, edge]
  rfl

/-- Where the lines show what they must, judging them changes nothing (R195). -/
theorem State.judgeAttention_of_judged {s : State} (up : s.mainUp = true) (judged : s.AttentionJudged) :
    s.judgeAttention = s := by
  have link (l : LinkId) : s.judgeAttention.link l = s.link l := by
    rw [s.link_judgeAttention, State.judgedLink, ← s.attentionJudged_iff.1 judged up l]
  have links : s.judgeAttention.links = s.links := Vector.ext fun i within => link ⟨i, within⟩
  show { s with links := s.judgeAttention.links } = s
  rw [links]

/-- Links that differ in their attention lines alone are judged alike (R195). -/
theorem State.judgeAttention_congr_links (s : State) {links : Vector Link 4}
    (same : ∀ l : LinkId, { links[l] with attention := (s.link l).attention } = s.link l) :
    State.judgeAttention { s with links := links } = s.judgeAttention := by
  have judged (l : LinkId) : State.judgedLink { s with links := links } l = s.judgedLink l := by
    have link : State.link { s with links := links } l = { s.link l with attention := links[l].attention } := by
      rw [← same l]
      rfl
    have role : links[l].role = (s.link l).role := by rw [← same l]
    rw [State.judgedLink, State.judgedLink, State.judgedLine_congr (s := s) (by rw [link]; rfl) (by rw [link])
      (State.conditions_of_links role), link]
  show { s with links := #v[_, _, _, _] } = _
  rw [judged, judged, judged, judged]
  rfl

/-- Settles O6: the cold start's values at these pins are those of the reset state, whose lines show what they must. -/
theorem resetIsAColdStart : Obligations.ResetIsAColdStart := by
  intro s lost idle
  rw [coldStartClearsThePart s _ lost, idle]
  refine congrArg Host.Outcome.next (Eq.trans ?_ (State.judgeAttention_of_judged rfl State.attentionJudged_reset))
  refine State.reset.judgeAttention_congr_links fun l => ?_
  match l with
  | 0 => rfl
  | 1 => rfl
  | 2 => rfl
  | 3 => rfl

/-! ### The warm start (R213) -/

/-- The role of a link by the straps: a single role goes to its lowest-numbered link (R200). -/
theorem startRole_eq (p : Pins) (l : LinkId) : startRole p l =
    if p.roleStraps[l] = 2 then .cell else if p.roleStraps[l] = 3 then .supervisor
    else if ∃ m, m < l ∧ p.roleStraps[m] = p.roleStraps[l] then .disabled
    else if p.roleStraps[l] = 0 then .presetter else .crib := by
  have straps : ∀ b : BitVec 2, b = 0 ∨ b = 1 ∨ b = 2 ∨ b = 3 := by decide
  have same (m : LinkId) : strappedRole p.roleStraps[m] = strappedRole p.roleStraps[l] ↔
      p.roleStraps[m] = p.roleStraps[l] := by
    have injective : ∀ a b : BitVec 2, strappedRole a = strappedRole b ↔ a = b := by decide
    exact injective _ _
  have lower : [(0 : LinkId), 1, 2, 3].any (fun m => decide (m < l) && strappedRole p.roleStraps[m] ==
      strappedRole p.roleStraps[l]) = true ↔ ∃ m, m < l ∧ p.roleStraps[m] = p.roleStraps[l] := by
    have listed : ∀ m : LinkId, m ∈ [(0 : LinkId), 1, 2, 3] := by decide
    simp only [List.any_eq_true, Bool.and_eq_true, decide_eq_true_eq, beq_iff_eq, same]
    exact ⟨fun ⟨m, _, low⟩ => ⟨m, low⟩, fun ⟨m, low⟩ => ⟨m, listed m, low⟩⟩
  unfold startRole
  dsimp only
  simp only [Bool.and_eq_true, lower]
  rcases straps p.roleStraps[l] with strap | strap | strap | strap <;> rw [strap] <;> simp [strappedRole, Role.single]

theorem link_startLinks (p : Pins) (l : LinkId) :
    (startLinks p)[l] = Link.started (startRole p l) (strappedRate p.rateStraps[l]) := by
  match l with
  | 0 => rfl
  | 1 => rfl
  | 2 => rfl
  | 3 => rfl

/-- A qualifier taken from the lines under the old settings, taken under the new ones (R46, R56). -/
theorem Capture.under_fresh (c : Capture) (n : Lines) (old new : Settings) :
    Capture.under { c with qualifier := freshQualifier n old } n old new =
      { c with
        checkPending := c.checkPending || decide (new ≠ old), qualifier := freshQualifier n new
        a := if new.countsPerRev = old.countsPerRev then c.a else c.a % new.countsPerRev } := by
  have qualifier : (if new.requalifies old then freshQualifier n new else freshQualifier n old) =
      freshQualifier n new := by
    cases moved : new.requalifies old with
    | true => rfl
    | false => exact (freshQualifier_of_not_requalifies n moved).symm
  simp only [Capture.under, qualifier]

/-- The start values with the parked values applied: the qualifier is the lines' under the new settings, and a capture
unit just started has nothing else to bring under them (R46, R58, R61, R210). -/
theorem State.applyParked_startValues (p : Pins) (s : State) : (s.startValues p).requalify.applyParked =
    { s.startValues p with
      settings := s.settings.withParked s.parked, parked := Parked.empty
      capture := { Capture.started with qualifier := freshQualifier (startLines p) (s.settings.withParked s.parked) } } := by
  have capture := Capture.under_fresh Capture.started (startLines p) s.settings (s.settings.withParked s.parked)
  have angle : (if (s.settings.withParked s.parked).countsPerRev = s.settings.countsPerRev then Capture.started.a
      else Capture.started.a % (s.settings.withParked s.parked).countsPerRev) = 0 := by
    rw [show Capture.started.a = 0 from rfl, Nat.zero_mod, ite_self]
  rw [angle] at capture
  rw [State.applyParked_eq_withSettings]
  exact congrArg (fun c => { s.startValues p with
    settings := s.settings.withParked s.parked, parked := Parked.empty, capture := c }) capture

/-- The CALIBRATE job that the check of a start makes and the engine offers (R75, R114). -/
def Reference.startJob (ref : Reference) : Job :=
  { number := 1, kind := .calibrate, record := none, plan := ref.plan, origin := .autoCal, urgent := true, prior := none,
    phase := .current }

/-- The auto-calibrate check of a start: with no job and no hall time, only the settings and the reference decide. -/
theorem State.autoCalDue_of_unset {s : State} (unset : s.hall.set = false) (jobs : s.jobs = [])
    (dated : s.reference.timePending = false) : s.autoCalDue = decide (s.settings.autoCal = 1 ∧
      s.reference.gaugeTag ≠ 0 ∧ (s.reference.present = false ∨ s.reference.lastOutcome ≠ .driftRejected)) := by
  rw [Bool.eq_iff_iff, s.autoCalDue_iff, s.stale_iff, decide_eq_true_iff, jobs]
  simp [unset, dated]

/-- From an empty queue and an IDLE engine the check and the choice offer the CALIBRATE job or do nothing (R75, R114). -/
theorem State.engineChoose_autoCalCheck {s : State} (jobs : s.jobs = []) (next : s.nextJob = 1)
    (idle : s.engine = Engine.idle) : s.autoCalCheck.engineChoose =
      { s with
        jobs := if s.autoCalDue then [s.reference.startJob] else [], nextJob := if s.autoCalDue then 2 else 1
        engine := if s.autoCalDue then { Engine.idle with phase := .offered } else Engine.idle } := by
  cases due : s.autoCalDue with
  | false =>
    rw [State.autoCalCheck_of_not_due due, State.engineChoose_of_no_jobs jobs]
    simp only [Bool.false_eq_true, if_false]
    rw [← jobs, ← next, ← idle]
  | true =>
    rw [State.autoCalCheck, if_pos due]
    cases s
    cases jobs
    cases next
    cases idle
    rfl

/-- Whether a warm start makes the CALIBRATE job, of the settings and the reference it keeps (R114). -/
def State.calibratesAtStart (s : State) : Bool :=
  decide (s.settings.autoCal = 1 ∧ s.reference.gaugeTag ≠ 0 ∧
    (s.reference.present = false ∨ s.reference.lastOutcome ≠ .driftRejected))

/-- A warm start, whole: the repaired memory under its start values, the parked values applied, and the check with the
choice after it (R213; log 12). -/
theorem State.start_warm {s : State} (kept : s.lossMark = false) (p : Pins) : s.start p = State.judgeAttention
    { (s.warmMemory (startRole p)).startValues p with
      settings := s.settings.withParked s.parked, parked := Parked.empty
      capture := { Capture.started with qualifier := freshQualifier (startLines p) (s.settings.withParked s.parked) }
      jobs := if s.calibratesAtStart then [s.reference.startJob] else []
      nextJob := if s.calibratesAtStart then 2 else 1
      engine := if s.calibratesAtStart then { Engine.idle with phase := .offered } else Engine.idle } := by
  rw [State.start, if_neg (Bool.eq_false_iff.1 kept), State.applyParked_startValues,
    State.engineChoose_autoCalCheck rfl rfl rfl, State.autoCalDue_of_unset rfl rfl rfl]
  rfl

theorem freshQualifier_eq (n : Lines) (t : Settings) : freshQualifier n t =
    if n.guardLevel ≠ (t.guardRef == 1) then .guarded
    else if n.edgeLevel = (t.edgePolarity == 1) then .heldActive else .listening := by
  simp only [freshQualifier, bne_iff_ne, beq_iff_eq]

/-- A judgement moves nothing of a link but its attention line. -/
theorem State.link_judgeAttention_of {t : State} {l : LinkId} {k : Link} (link : t.link l = k) :
    t.judgeAttention.link l = { k with attention := (t.judgeAttention.link l).attention } := by
  subst link
  rw [t.link_judgeAttention]
  rfl

/-- A warm start leaves each link as its straps start it, but for its attention line (R200, R201). -/
theorem State.link_start_warm {s : State} (kept : s.lossMark = false) (p : Pins) (l : LinkId) : (s.start p).link l =
    { Link.started (startRole p l) (strappedRate p.rateStraps[l]) with attention := ((s.start p).link l).attention } := by
  rw [State.start_warm kept]
  exact State.link_judgeAttention_of (link_startLinks p l)

theorem State.tool_start_warm {s : State} (kept : s.lossMark = false) (p : Pins) (n : RecNo) :
    (s.start p).tool n = (s.tool n).change ((s.tool n).repaired (startRole p)) := by
  rw [← State.tool_warmMemory, State.start_warm kept]
  rfl

/-! ### Records at a warm start (R24) -/

section
variable {r : ToolRecord} (role : LinkId → Role)

theorem ToolRecord.change_lost (held : r.state ≠ .check) : r.change r.lost =
    { r with state := .check, loc := .unknown, lastFault := .tagLost, version := r.version + 1 } :=
  ToolRecord.change_of_state r _ (Ne.symm held)

/-- A record on its way out at the fall of the supply is lost. -/
theorem ToolRecord.repair_outbound (outbound : r.state = .allocated ∨ r.state = .inTransit) :
    r.change (r.repaired role) =
      { r with state := .check, loc := .unknown, lastFault := .tagLost, version := r.version + 1 } := by
  have lost : r.repaired role = r.lost := by
    rcases outbound with state | state <;> rw [ToolRecord.repaired, state]
  rw [lost, ToolRecord.change_lost (by rcases outbound with state | state <;> rw [state] <;> exact nofun)]

/-- A record whose measurement was cut off is due again at the presetter, or quarantined when it is recalled (R21). -/
theorem ToolRecord.repair_measuring (measuring : r.state = .measuring) : r.change (r.repaired role) =
    { r with state := if r.recalled then .quarantine else .presetDue, loc := .presetter, version := r.version + 1 } := by
  have due : r.repaired role = { r with state := recallGate r.recalled .presetDue, loc := .presetter } := by
    rw [ToolRecord.repaired, measuring]
  rw [due, recallGate_presetDue, ToolRecord.change_of_state]
  rw [measuring]
  cases r.recalled <;> exact nofun

/-- A record due for a preset or READY stays so, but for a recall (R21). -/
theorem ToolRecord.repair_due (due : r.state = .presetDue ∨ r.state = .ready) :
    r.repaired role = { r with state := if r.recalled then .quarantine else r.state } := by
  rcases due with state | state <;> rw [ToolRecord.repaired, state] <;> cases r.recalled <;> rfl

theorem ToolRecord.repair_recalled (due : r.state = .presetDue ∨ r.state = .ready) (recalled : r.recalled = true) :
    r.change (r.repaired role) = { r with state := .quarantine, version := r.version + 1 } := by
  rw [ToolRecord.repair_due role due, recalled, if_pos rfl, ToolRecord.change_of_state]
  rcases due with state | state <;> rw [state] <;> exact nofun

theorem ToolRecord.repaired_of_free (due : r.state = .presetDue ∨ r.state = .ready) (free : r.recalled = false) :
    r.repaired role = r := by
  have same : (if r.recalled then .quarantine else r.state) = r.state := if_neg (Bool.eq_false_iff.1 free)
  rw [ToolRecord.repair_due role due, same]

theorem ToolRecord.repair_kept (kept : r.repaired role = r) : r.change (r.repaired role) = r := by
  rw [kept, r.change_self]

/-- A record in a machine stays while its place is on a CELL link, and is lost otherwise. -/
theorem ToolRecord.repair_inMachine {q : Place} (state : r.state = .inMachine) (place : r.loc = .machine q) :
    r.change (r.repaired role) = if role q.link = .cell then r
      else { r with state := .check, loc := .unknown, lastFault := .tagLost, version := r.version + 1 } := by
  have repaired : r.repaired role = if role q.link = .cell then r else r.lost := by
    simp only [ToolRecord.repaired, state, ToolRecord.stranded, place, Location.place?, bne_iff_ne, ite_not]
  rw [repaired]
  split
  · exact r.change_self
  · exact ToolRecord.change_lost (by rw [state]; exact nofun)

/-- A record that is empty, on its way back, put aside, worn or to be checked is not repaired. -/
theorem ToolRecord.repaired_of_settled (settled : r.state = .empty ∨ r.state = .returning ∨ r.state = .quarantine ∨
    r.state = .worn ∨ r.state = .check) : r.repaired role = r := by
  rcases settled with state | state | state | state | state <;> rw [ToolRecord.repaired, state]

end

/-- Settles O5: the start's values by field, each link as its straps start it, and each record by its repair. -/
theorem warmStartRepairsTheTable : Obligations.WarmStartRepairsTheTable := by
  intro s p kept strap role rate set ref due j
  have roles (l : LinkId) : startRole p l = role l := startRole_eq p l
  have links (l : LinkId) : (s.start p).link l =
      { Link.started (role l) (rate l) with attention := ((s.start p).link l).attention } := by
    rw [← roles]
    exact State.link_start_warm kept p l
  have qualifier : freshQualifier (startLines p) set = if p.guardLine ≠ (set.guardRef == 1) then .guarded
      else if p.edge = (set.edgePolarity == 1) then .heldActive else .listening := freshQualifier_eq _ _
  refine ⟨s.start p, rfl, ?_, links, State.attentionJudged_judgeAttention _, fun n => ?_⟩
  · rw [← qualifier, State.start_warm kept, kept]
    rfl
  · dsimp only
    have inRole (l : LinkId) : ((s.start p).link l).role = startRole p l := by
      rw [State.link_start_warm kept]
      rfl
    rw [State.tool_start_warm kept]
    refine ⟨ToolRecord.repair_outbound _, ToolRecord.repair_measuring _, ToolRecord.repair_recalled _,
      fun state free => ToolRecord.repair_kept _ (ToolRecord.repaired_of_free _ state free), fun q state place => ?_,
      fun settled => ToolRecord.repair_kept _ (ToolRecord.repaired_of_settled _ settled)⟩
    rw [inRole]
    exact ToolRecord.repair_inMachine _ state place

end Sys2Proof.Machine

/-! PROOF. The parameters of a request as bytes, read back (R203), and the frame of a request as the request itself: how
a frame is judged, taken, kept waiting and discarded (R203 to R207, R211; logs 3, 4). -/

namespace Sys2Proof.Machine

-- One proof after another: side by side their threads need more memory than the checks allow.
set_option Elab.async false

/-! ### Numbers and fields as bytes (R203) -/

/-- The bytes of a number that fits them spell it. -/
theorem leNat_leBytes : ∀ {w v : Nat}, v < 256 ^ w → leNat (leBytes w v) = v
  | 0, v, fits => by
    have zero : v = 0 := by simpa using fits
    exact zero.symm
  | w + 1, v, fits => by
    have rest : v / 256 < 256 ^ w := Nat.div_lt_of_lt_mul (by rwa [pow_succ'] at fits)
    rw [leBytes, leNat, leNat_leBytes rest, BitVec.toNat_ofNat]
    exact Nat.mod_add_div v 256

/-- Numbers that fit their widths, one for each. -/
abbrev Fits (ws vs : List Nat) : Prop := List.Forall₂ (fun w v => v < 256 ^ w) ws vs

theorem length_writeFields {ws vs : List Nat} (fits : Fits ws vs) : (writeFields ws vs).length = ws.sum := by
  induction fits with
  | nil => rfl
  | cons _ _ ih => rw [writeFields, List.length_append, length_leBytes, ih, List.sum_cons]

/-- Fields that fit their widths are read back as they were written. -/
theorem readFields_writeFields {ws vs : List Nat} (fits : Fits ws vs) :
    readFields ws (writeFields ws vs) = some vs := by
  induction fits with
  | nil => rfl
  | @cons w v ws vs first _ ih =>
    have length : (leBytes w v).length = w := length_leBytes w v
    rw [writeFields, readFields, if_neg (by rw [List.length_append, length]; omega), List.drop_left' length,
      List.take_left' length, ih, leNat_leBytes first]
    rfl

/-- Fields are read only from exactly as many bytes as they take (R207 step 4). -/
theorem length_of_readFields : ∀ {ws : List Nat} {bs : List Byte} {vs : List Nat},
    readFields ws bs = some vs → bs.length = ws.sum
  | [], [], _, _ => rfl
  | w :: ws, bs, vs, read => by
    rw [readFields] at read
    split at read
    · cases read
    · next enough =>
      obtain ⟨rest, tail, -⟩ := Option.map_eq_some_iff.1 read
      have length := length_of_readFields tail
      rw [List.length_drop] at length
      rw [List.sum_cons]
      omega

/-! ### Requests as their parameters (R203) -/

theorem Instr.code_range {i : Instr} {k : Nat} (code : i.code = some k) : 1 ≤ k ∧ k ≤ 48 := by
  cases i <;> cases code <;> decide

/-- Each operand of a request fits the bytes of its item: no width cuts a value. -/
theorem Instr.fields_fit {i : Instr} {k : Nat} (code : i.code = some k) : Fits (paramWidths k) i.fields := by
  cases i <;> cases code <;> (repeat refine List.Forall₂.cons (BitVec.isLt _) ?_) <;> exact .nil

/-- The two requests without a fixed number of parameter bytes (R30, R193). -/
def FreeLength (k : Nat) : Prop := k = 0x0B ∨ k = 0x2B

theorem Instr.params_eq {i : Instr} {k : Nat} (code : i.code = some k) (fixed : ¬ FreeLength k) :
    i.params = writeFields (paramWidths k) i.fields := by
  cases i <;> cases code
  case editData => exact absurd (.inl rfl) fixed
  case setMask => exact absurd (.inr rfl) fixed
  all_goals rfl

/-- A request is made again from the numbers its parameters spell. -/
theorem requestOf_fields {i : Instr} {c : Caller} {k : Nat} (caller : i.caller = some c) (code : i.code = some k)
    (fixed : ¬ FreeLength k) : requestOf c k i.fields = some i := by
  cases i <;> cases code <;> cases caller
  case editData => exact absurd (.inl rfl) fixed
  case setMask => exact absurd (.inr rfl) fixed
  all_goals conv => lhs; whnf
  all_goals simp only [BitVec.ofNat_toNat, BitVec.setWidth_eq]

theorem decodeRequest_fixed (c : Caller) {k : Nat} (fixed : ¬ FreeLength k) (params : List Byte) :
    decodeRequest c k params = (readFields (paramWidths k) params).bind (requestOf c k) := by
  obtain ⟨editData, setMask⟩ := not_or.1 fixed
  unfold decodeRequest
  rw [if_neg editData, if_neg setMask]

/-- The parameters of a request decode to it. -/
theorem decodeRequest_params {i : Instr} {c : Caller} {k : Nat} (caller : i.caller = some c) (code : i.code = some k) :
    decodeRequest c k i.params = some i := by
  by_cases fixed : FreeLength k
  · cases i <;> cases caller <;> cases code <;> rcases fixed with same | same <;> cases same <;> rfl
  · rw [decodeRequest_fixed c fixed, Instr.params_eq code fixed, readFields_writeFields (Instr.fields_fit code)]
    exact requestOf_fields caller code fixed

/-- A well-formed request's parameters fit a frame body. -/
theorem Instr.length_params_le {i : Instr} {k : Nat} (formed : i.wellFormed = true) (code : i.code = some k) :
    i.params.length ≤ 238 := by
  by_cases fixed : FreeLength k
  · cases i <;> cases code <;> rcases fixed with same | same <;> cases same
    · exact of_decide_eq_true formed
    · exact of_decide_eq_true formed
  · rw [Instr.params_eq code fixed, length_writeFields (Instr.fields_fit code)]
    obtain ⟨-, top⟩ := Instr.code_range code
    have widths : ∀ k ≤ 48, (paramWidths k).sum ≤ 238 := by decide
    exact widths k top

/-- Settles O54: each operand fits its bytes, so the fields are read back and make the request again. -/
theorem requestsDecodeFromTheirParameters : Obligations.RequestsDecodeFromTheirParameters := by
  intro i c code formed caller known
  obtain ⟨low, top⟩ := Instr.code_range known
  refine ⟨decodeRequest_params caller known, Instr.length_params_le formed known, ?_, low, top⟩
  rw [Instr.functionByte_of_code known, BitVec.toNat_ofNat]
  exact Nat.mod_eq_of_lt (by omega)

/-! ### A frame judged (R202, R207) -/

theorem roleAllows_disabled (k : Nat) : roleAllows k .disabled = false := by
  unfold roleAllows requestRoles
  split <;> rfl

/-- The frame of a request is judged as the request: by its link's role, then by its owning rule (R202, R207). -/
theorem judgeFrame_frameOf {i : Instr} {c : Caller} {k : Nat} (caller : i.caller = some c) (code : i.code = some k)
    (s : State) : judgeFrame c.link (frameOf i c) s = s.byRole c.link k (ownRule i) := by
  obtain ⟨low, top⟩ := Instr.code_range code
  have function : (frameOf i c).function.toNat = k := by
    rw [frameOf, Instr.functionByte_of_code code, BitVec.toNat_ofNat]
    exact Nat.mod_eq_of_lt (by omega)
  have listed : isFunctionCode k = true := by simp [isFunctionCode, low, top]
  have rule : judgeParams c.link (frameOf i c) = ownRule i := by
    funext t
    have decoded : decodeRequest { link := c.link, tagByte := (frameOf i c).tagByte } k (frameOf i c).params = some i :=
      decodeRequest_params caller code
    rw [judgeParams, function, decoded]
  rw [judgeFrame, function, listed, if_pos rfl, rule]
  split
  · next disabled => rw [State.byRole, disabled, roleAllows_disabled, if_neg Bool.false_ne_true]
  · rfl

/-- A frame of the table whose parameters spell no request is out of range (R207 step 4). -/
theorem judgeFrame_outOfRange {l : LinkId} {f : Frame} {s : State}
    (opens : roleAllows f.function.toNat (s.link l).role = true) (low : 1 ≤ f.function.toNat)
    (top : f.function.toNat ≤ 48)
    (unread : decodeRequest { link := l, tagByte := f.tagByte } f.function.toNat f.params = none) :
    judgeFrame l f s = (s, reply .outOfRange) := by
  have enabled : (s.link l).role ≠ .disabled := fun disabled => by
    rw [disabled, roleAllows_disabled] at opens
    cases opens
  have listed : isFunctionCode f.function.toNat = true := by simp [isFunctionCode, low, top]
  rw [judgeFrame, if_neg enabled, listed, if_pos rfl, State.byRole, opens, if_pos rfl, judgeParams, unread]

/-! ### A frame completed (R204 to R206, R211) -/

section
variable {s : State} {l : LinkId}

theorem State.frameReceived_heeds (heeds : (s.link l).ignoring = false) (body : List Byte) (check : BitVec 16) :
    s.frameReceived l body check = s.completeFrame l body check := by
  rw [State.frameReceived, heeds, if_neg Bool.false_ne_true]

/-- A frame whose length and check are good is handed in (R204, R206). -/
theorem State.completeFrame_good (s : State) (l : LinkId) (f : Frame) (fits : f.params.length ≤ 238) :
    s.completeFrame l (f.function :: f.tagByte :: f.params)
      (frameCheck (lengthByte (f.function :: f.tagByte :: f.params) :: f.function :: f.tagByte :: f.params)) =
    (s.received l).handIn l f (judgeFrame l f) := by
  have bounded : bodyFits (f.function :: f.tagByte :: f.params) = true := by
    simp only [bodyFits, List.length_cons, Bool.and_eq_true, decide_eq_true_eq]
    omega
  simp only [State.completeFrame, bounded, BEq.rfl, Bool.and_true, if_true]

/-- A frame whose length or check is bad only puts its receiver in HUNTING (R205). -/
theorem State.completeFrame_bad (s : State) (l : LinkId) {body : List Byte} {check : BitVec 16}
    (bad : check ≠ frameCheck (lengthByte body :: body) ∨ body.length < 2 ∨ 240 < body.length) :
    s.completeFrame l body check = s.received l := by
  have refused : (bodyFits body && check == frameCheck (lengthByte body :: body)) = false := by
    rw [bodyFits, Bool.and_eq_false_iff, Bool.and_eq_false_iff, decide_eq_false_iff_not, decide_eq_false_iff_not,
      beq_eq_false_iff_ne]
    rcases bad with check | short | long
    · exact .inr check
    · exact .inl (.inl (by omega))
    · exact .inl (.inr (by omega))
  simp only [State.completeFrame, refused, Bool.false_eq_true, if_false]

/-- The frame of a well-formed request is the request, whatever its link does with it (logs 3, 4). -/
theorem State.frameReceived_eq_submit {i : Instr} {c : Caller} {k : Nat} (formed : i.wellFormed = true)
    (caller : i.caller = some c) (code : i.code = some k) (s : State) :
    s.frameReceived c.link (i.functionByte :: c.tagByte :: i.params) (frameCheck
      (lengthByte (i.functionByte :: c.tagByte :: i.params) :: i.functionByte :: c.tagByte :: i.params)) =
    State.submit i c (ownRule i) s := by
  have judged : judgeFrame c.link (frameOf i c) = State.byRole c.link (i.code.getD 0) (ownRule i) := by
    funext t
    rw [code]
    exact judgeFrame_frameOf caller code t
  rw [State.submit, ← judged, State.frameReceived]
  exact if_congr Iff.rfl rfl (s.completeFrame_good c.link (frameOf i c) (Instr.length_params_le formed code))

theorem State.frameReceived_eq_undefinedFunction (c : Caller) (function : Byte) {params : List Byte}
    (fits : params.length ≤ 238) (s : State) :
    s.frameReceived c.link (function :: c.tagByte :: params) (frameCheck
      (lengthByte (function :: c.tagByte :: params) :: function :: c.tagByte :: params)) =
    s.undefinedFunction c function params :=
  if_congr Iff.rfl rfl
    (s.completeFrame_good c.link { function := function, tagByte := c.tagByte, params := params } fits)

theorem State.event_congr {f g : State → State} (same : f s = g s) : State.event f s = State.event g s := by
  rw [State.event, State.event, same]

theorem exec_frame_eq {i : Instr} {c : Caller} (formed : i.wellFormed = true) (caller : i.caller = some c) (s : State) :
    exec (.frameReceived c.link (i.functionByte :: c.tagByte :: i.params) (frameCheck
      (lengthByte (i.functionByte :: c.tagByte :: i.params) :: i.functionByte :: c.tagByte :: i.params))) s =
    exec i s := by
  cases code : i.code with
  | some k =>
    obtain ⟨d, called, run⟩ := exec_request s code
    obtain rfl : d = c := Option.some.inj (called.symm.trans caller)
    exact (State.event_congr (s.frameReceived_eq_submit formed caller code)).trans run.symm
  | none =>
    obtain ⟨function, params, rfl⟩ := Instr.eq_undefinedFunction caller code
    obtain ⟨-, short⟩ := Bool.and_eq_true_iff.1 formed
    have fits : params.length ≤ 238 := of_decide_eq_true short
    exact State.event_congr (s.frameReceived_eq_undefinedFunction c function fits)

/-- A frame received on a line that is heeded, while main power is up. -/
theorem exec_frameReceived_heeds (up : s.mainUp = true) (heeds : (s.link l).ignoring = false) (body : List Byte)
    (check : BitVec 16) :
    exec (.frameReceived l body check) s = .next (s.completeFrame l body check).judgeAttention := by
  rw [← State.frameReceived_heeds heeds]
  exact State.event_up _ _ up

/-- A good frame received is handed in, and the lines are judged. -/
theorem exec_frameReceived_good (up : s.mainUp = true) (heeds : (s.link l).ignoring = false) {f : Frame}
    (fits : f.params.length ≤ 238) :
    exec (.frameReceived l (f.function :: f.tagByte :: f.params) (frameCheck
      (lengthByte (f.function :: f.tagByte :: f.params) :: f.function :: f.tagByte :: f.params))) s =
    .next ((s.received l).handIn l f (judgeFrame l f)).judgeAttention := by
  rw [exec_frameReceived_heeds up heeds, s.completeFrame_good l f fits]

/-- A good frame on an idle link is judged and answered (R206, R207). -/
theorem exec_frameReceived_idle (up : s.mainUp = true) (idle : (s.link l).Idle) {f : Frame}
    (fits : f.params.length ≤ 238) :
    exec (.frameReceived l (f.function :: f.tagByte :: f.params) (frameCheck
      (lengthByte (f.function :: f.tagByte :: f.params) :: f.function :: f.tagByte :: f.params))) s =
    .next (State.answer l f (judgeFrame l f (s.received l))).judgeAttention := by
  rw [exec_frameReceived_good up idle.heeds fits, State.handIn_idle (State.idle_received idle)]

/-- An answer without results on a link is the answered state of claims. -/
theorem State.answer_reply (s : State) (c : Caller) (f : Frame) (tag : f.tagByte = c.tagByte) (outcome : ReplyCode) :
    (State.answer c.link f (s, reply outcome)).judgeAttention = s.answered c f.function.toNat outcome [] := by
  have code : f.function + 0x80#8 = BitVec.ofNat 8 (f.function.toNat + 0x80) := by
    apply BitVec.eq_of_toNat_eq
    simp
  rw [State.answer, State.answered, code, tag]
  rfl

/-- Parameters of the wrong number spell no request of a fixed length, and none at all no SET_MASK (R207; log 21). -/
theorem decodeRequest_wrong_length (c : Caller) {function : Byte} {params : List Byte}
    (wrong : (function ≠ 0x0B ∧ function ≠ 0x2B ∧ params.length ≠ (paramWidths function.toNat).sum) ∨
      (function = 0x2B ∧ params = [])) : decodeRequest c function.toNat params = none := by
  rcases wrong with ⟨editData, setMask, length⟩ | ⟨rfl, rfl⟩
  · have fixed : ¬ FreeLength function.toNat :=
      not_or.2 ⟨fun e => editData (BitVec.eq_of_toNat_eq e), fun e => setMask (BitVec.eq_of_toNat_eq e)⟩
    have unread : readFields (paramWidths function.toNat) params = none :=
      Option.eq_none_iff_forall_ne_some.2 fun vs read => length (length_of_readFields read)
    rw [decodeRequest_fixed c fixed, unread]
    rfl
  · rfl

end

/-- Settles O52: the frame of a request is handed in as the request, and what the link does with a frame is its length,
its check, the waiting place and the transmitter. -/
theorem framesRunTheirRequests : Obligations.FramesRunTheirRequests := by
  refine ⟨fun i c s formed caller => exec_frame_eq formed caller s, fun l f s up heeds fits => ?_,
    fun l body check s up => ⟨fun heeds bad => ?_, fun ignores => ?_⟩,
    fun c function params s taken low top fits wrong => ?_, fun k a => ⟨fun idle => ?_, fun sends => ?_⟩⟩
  · intro body good r
    have run : exec good s = .next ((s.received l).handIn l f (judgeFrame l f)).judgeAttention :=
      exec_frameReceived_good up heeds fits
    have link : (s.received l).link l = { s.link l with receiver := .hunting, spaceChars := 0 } := s.link_received_self l
    refine ⟨fun free idle => exec_frameReceived_idle up ⟨heeds, free, idle⟩ fits, fun free busy => ?_, fun full => ?_⟩
    · obtain ⟨a, sends⟩ := Option.ne_none_iff_exists'.1 busy
      rw [run, State.handIn_sending (by rw [link]; exact free) (by rw [link]; exact sends), State.received_eq,
        State.changeLink_changeLink]
    · obtain ⟨g, waits⟩ := Option.ne_none_iff_exists'.1 full
      rw [run, State.handIn_waiting (by rw [link]; exact waits), State.received_eq]
  · rw [exec_frameReceived_heeds up heeds, s.completeFrame_bad l bad]
  · refine (State.event_up _ _ up).trans ?_
    rw [State.frameReceived, if_pos ignores]
  · have answered := exec_frameReceived_idle (l := c.link)
      (f := { function := function, tagByte := c.tagByte, params := params }) taken.up
      ⟨taken.heeds, taken.empty, taken.idle⟩ fits
    refine answered.trans ?_
    rw [judgeFrame_outOfRange (by rw [State.role_received]; exact taken.opens) low top
      (decodeRequest_wrong_length _ wrong), State.answer_reply _ c _ rfl]
  · rw [Link.sending, idle]
  · rw [Link.sending, sends]
    rfl

end Sys2Proof.Machine

/-! PROOF. The receiver's characters, one at a time and as a whole frame, and what the gap, the end of an answer and a
break do to a link (R88, R201, R203, R205, R206, R211; logs 7, 23). -/

namespace Sys2Proof.Machine

-- One proof after another: side by side their threads need more memory than the checks allow.
set_option Elab.async false

section
variable {s : State} {l : LinkId}

/-! ### Single characters (R201, R205) -/

/-- A good byte on a line that is heeded reaches the receiver. -/
theorem exec_character_good (up : s.mainUp = true) (heeds : (s.link l).ignoring = false) (b : Byte) :
    exec (.characterReceived l b true) s = .next (s.receiveByte l b).judgeAttention := by
  refine (State.event_up _ _ up).trans ?_
  rw [State.characterReceived, heeds, if_neg Bool.false_ne_true, if_pos rfl]

theorem State.receiveByte_hunting (hunting : (s.link l).receiver = .hunting) (b : Byte) :
    s.receiveByte l b = s.setReceiver l (if b = 0xC3 then .length else .hunting) := by
  rw [State.receiveByte, hunting]
  rfl

theorem State.receiveByte_length (length : (s.link l).receiver = .length) (b : Byte) :
    s.receiveByte l b = s.setReceiver l (if 2 ≤ b.toNat ∧ b.toNat ≤ 240 then .body b.toNat [] else .hunting) := by
  rw [State.receiveByte, length]

theorem State.receiveByte_body {n : Nat} {got : List Byte} (body : (s.link l).receiver = .body n got)
    (short : got.length + 1 < n + 2) (b : Byte) : s.receiveByte l b = s.setReceiver l (.body n (got ++ [b])) := by
  have partly : ¬ n + 2 ≤ (got ++ [b]).length := by
    rw [List.length_append, List.length_singleton]
    omega
  rw [State.receiveByte, body]
  exact if_neg partly

/-- The low check byte completes the frame. -/
theorem State.receiveByte_last {hi : Byte} {body : List Byte}
    (held : (s.link l).receiver = .body body.length (body ++ [hi])) (lo : Byte) :
    s.receiveByte l lo = s.completeFrame l body (hi ++ lo) := by
  have whole : body.length + 2 ≤ (body ++ [hi] ++ [lo]).length := by simp
  have bytes : body ++ [hi] ++ [lo] = body ++ [hi, lo] := by simp
  rw [State.receiveByte, held]
  dsimp only
  rw [if_pos whole, bytes, List.take_left, List.drop_left]
  rfl

/-- The low check byte does what the frame does. -/
theorem exec_character_last (up : s.mainUp = true) (heeds : (s.link l).ignoring = false) {hi : Byte} {body : List Byte}
    (held : (s.link l).receiver = .body body.length (body ++ [hi])) (lo : Byte) :
    exec (.characterReceived l lo true) s = exec (.frameReceived l body (hi ++ lo)) s := by
  rw [exec_character_good up heeds, State.receiveByte_last held, exec_frameReceived_heeds up heeds]

/-! ### Characters in turn (R203, R205) -/

theorem runAll_cons {c : Instr} {cs : List Instr} {t : State} (first : exec c s = .next t) :
    runAll (c :: cs) s = runAll cs t := by
  rw [runAll, first]

theorem State.link_setReceiver_self (s : State) (l : LinkId) (r : Receiver) :
    (s.setReceiver l r).link l = { s.link l with receiver := r, spaceChars := 0 } := s.link_changeLink_self l _

/-- A receiver's change after a judgement, judged again, is the change judged once (R195). -/
theorem State.setReceiver_judgeAttention (s : State) (l : LinkId) (r : Receiver) :
    (s.judgeAttention.setReceiver l r).judgeAttention = (s.setReceiver l r).judgeAttention := by
  refine (s.setReceiver l r).judgeAttention_congr_links fun m => ?_
  have judged : (s.judgeAttention.setReceiver l r).link m = { (s.setReceiver l r).link m with
      attention := s.judgedLine m } := by
    by_cases same : m = l
    · subst same
      rw [State.link_setReceiver_self, State.link_setReceiver_self, s.link_judgeAttention]
      rfl
    · rw [State.setReceiver, State.setReceiver, State.link_changeLink_ne _ _ same, State.link_changeLink_ne _ _ same,
        s.link_judgeAttention]
      rfl
  exact congrArg (fun k : Link => { k with attention := ((s.setReceiver l r).link m).attention }) judged

/-- What the receiver held before counts no more, once it is put in a state. -/
theorem State.setReceiver_again (s : State) (l : LinkId) (r q : Receiver) :
    ((s.setReceiver l r).judgeAttention.setReceiver l q).judgeAttention = (s.setReceiver l q).judgeAttention := by
  rw [State.setReceiver_judgeAttention, State.setReceiver, State.setReceiver, State.changeLink_changeLink]
  rfl

/-- A judged state whose receiver was put in a state. -/
def State.holding (s : State) (l : LinkId) (r : Receiver) : State := (s.setReceiver l r).judgeAttention

theorem State.link_holding (s : State) (l : LinkId) (r : Receiver) : (s.holding l r).link l =
    { s.link l with receiver := r, spaceChars := 0, attention := (s.setReceiver l r).judgedLine l } := by
  rw [State.holding, State.link_judgeAttention, State.judgedLink, State.link_setReceiver_self]

/-- A byte that puts the receiver of a held partial frame in a state holds that state. -/
theorem exec_character_holding (up : s.mainUp = true) (heeds : (s.link l).ignoring = false) {r q : Receiver} {b : Byte}
    (next : (s.holding l r).receiveByte l b = (s.holding l r).setReceiver l q) :
    exec (.characterReceived l b true) (s.holding l r) = .next (s.holding l q) := by
  have still : ((s.holding l r).link l).ignoring = false := by rw [State.link_holding]; exact heeds
  rw [exec_character_good (s := s.holding l r) up still, next]
  exact congrArg Host.Outcome.next (s.setReceiver_again l r q)

/-- The bytes of a body and its high check byte are held one after another. -/
theorem runAll_body (up : s.mainUp = true) (heeds : (s.link l).ignoring = false) {n : Nat} :
    ∀ (bytes got : List Byte), got.length + bytes.length < n + 2 →
      runAll (bytes.map fun b => .characterReceived l b true) (s.holding l (.body n got)) =
        .next (s.holding l (.body n (got ++ bytes)))
  | [], got, _ => by
    rw [List.append_nil]
    rfl
  | b :: bytes, got, short => by
    rw [List.length_cons] at short
    have body : ((s.holding l (.body n got)).link l).receiver = .body n got := by rw [State.link_holding]
    have first := exec_character_holding up heeds (State.receiveByte_body body (by omega) b)
    rw [List.map_cons, runAll_cons first, runAll_body up heeds bytes (got ++ [b]) (by
      rw [List.length_append, List.length_singleton]
      omega), List.append_assoc]
    rfl

/-- The sync byte, the length byte, the body and the high check byte bring a hunting receiver to hold them. -/
theorem runAll_frame_but_last (up : s.mainUp = true) (heeds : (s.link l).ignoring = false)
    (hunting : (s.link l).receiver = .hunting) {body : List Byte} (low : 2 ≤ body.length) (top : body.length ≤ 240)
    (hi : Byte) :
    runAll ((syncByte :: lengthByte body :: (body ++ [hi])).map fun b => .characterReceived l b true) s =
      .next (s.holding l (.body body.length (body ++ [hi]))) := by
  have length : (lengthByte body).toNat = body.length := by
    rw [lengthByte, BitVec.toNat_ofNat]
    exact Nat.mod_eq_of_lt (by omega)
  have sync : exec (.characterReceived l syncByte true) s = .next (s.holding l .length) := by
    rw [exec_character_good up heeds, State.receiveByte_hunting hunting]
    rfl
  have sized : exec (.characterReceived l (lengthByte body) true) (s.holding l .length) =
      .next (s.holding l (.body body.length [])) := by
    have waits : ((s.holding l .length).link l).receiver = .length := by rw [State.link_holding]
    refine exec_character_holding up heeds ?_
    rw [State.receiveByte_length waits, length, if_pos ⟨low, top⟩]
  rw [List.map_cons, List.map_cons, runAll_cons sync, runAll_cons sized,
    runAll_body up heeds _ _ (by rw [List.length_append, List.length_singleton, List.length_nil]; omega)]
  rfl

end

/-- The two check bytes, high byte first, are the check (R203). -/
theorem check_of_bytes (check : BitVec 16) :
    (check.extractLsb' 8 8 ++ check.extractLsb' 0 8 : BitVec 16) = check :=
  (BitVec.extractLsb'_append_extractLsb'_eq_extractLsb' (start₁ := 0) (len₁ := 8) rfl).trans BitVec.extractLsb'_eq_self

/-- Settles O53: the bytes are held one after another, and the last completes the frame they spell. -/
theorem charactersMakeTheFrame : Obligations.CharactersMakeTheFrame := by
  intro l body check s up heeds hunting low top hi lo held
  have bytes : (frameBytes body check).dropLast = syncByte :: lengthByte body :: (body ++ [hi]) := by
    have split : frameBytes body check = (syncByte :: lengthByte body :: (body ++ [hi])) ++ [lo] := by
      simp [frameBytes, checkBytes, hi, lo]
    rw [split, List.dropLast_concat]
  refine ⟨rfl, ?_, ?_⟩
  · rw [bytes]
    exact runAll_frame_but_last up heeds hunting low top hi
  · have link := s.link_holding l (.body body.length (body ++ [hi]))
    have still : (held.link l).ignoring = false := by
      rw [show held.link l = _ from link]
      exact heeds
    have holds : (held.link l).receiver = .body body.length (body ++ [hi]) := by rw [show held.link l = _ from link]
    rw [exec_character_last (s := held) up still holds, check_of_bytes]

/-! ### Gaps, ends of answers and breaks (R88, R205, R206, R211) -/

section
variable {s : State} {l : LinkId}

/-- A line that is ignored after a break brings no character (R211). -/
theorem State.characterReceived_ignores (ignores : (s.link l).ignoring = true) (b : Byte) (stop : Bool) :
    s.characterReceived l b stop = s := if_pos ignores

/-- A framing error on a line that is heeded drops the partial frame and counts the space (R201; log 23). -/
theorem State.characterReceived_framing (heeds : (s.link l).ignoring = false) (b : Byte) :
    s.characterReceived l b false = s.framingError l b := by
  rw [State.characterReceived, heeds, if_neg Bool.false_ne_true, if_neg Bool.false_ne_true]

theorem State.answerSent_idle (idle : (s.link l).tx = none) : s.answerSent l = s := by
  rw [State.answerSent, idle]
  exact if_pos rfl

theorem State.answerSent_empty {a : Answer} (sends : (s.link l).tx = some a) (free : (s.link l).waiting = none) :
    s.answerSent l = s.changeLink l fun k => { k with tx := none } := by
  rw [State.answerSent, sends, free, if_neg nofun]

/-- The end of an answer takes the frame that waits (R206). -/
theorem State.answerSent_waiting {a : Answer} {f : Frame} (sends : (s.link l).tx = some a)
    (waits : (s.link l).waiting = some f) : s.answerSent l =
      State.answer l f (judgeFrame l f (s.changeLink l fun k => { k with tx := none, waiting := none })) := by
  rw [State.answerSent, sends, waits, if_neg nofun]

theorem State.linkBreak_ignores (ignores : (s.link l).ignoring = true) : s.linkBreak l = s := if_pos ignores

theorem State.linkBreak_other (heeds : (s.link l).ignoring = false) (other : (s.link l).role ≠ .presetter) :
    s.linkBreak l = s.changeLink l Link.broken := by
  rw [State.linkBreak, heeds, if_neg Bool.false_ne_true]
  exact if_neg other

theorem State.linkBreak_presetter (heeds : (s.link l).ignoring = false) (presetter : (s.link l).role = .presetter) :
    s.linkBreak l = (s.changeLink l Link.broken).presetterReset := by
  rw [State.linkBreak, heeds, if_neg Bool.false_ne_true]
  exact if_pos presetter

/-- The PRESETTER link's reset ends the current job, if there is one (R88). -/
theorem State.presetterReset_unoccupied (free : s.currentJob? = none) :
    s.presetterReset = { s with unread := false } := by
  rw [State.presetterReset, State.abortCurrent, free]

theorem State.presetterReset_occupied {j : Job} (current : s.currentJob? = some j) :
    s.presetterReset = { s.stopJob j .aborted with unread := false } := by
  rw [State.presetterReset, State.abortCurrent, current]

end

/-- Settles O55: each event on its line, by what the receiver, the transmitter and the link's role are. -/
theorem linkEventsMoveTheLink : Obligations.LinkEventsMoveTheLink := by
  intro s l up at_ cut heard
  -- An event whose change of the state is known.
  have event (i : Instr) {f : State → State} {t : State} (run : exec i s = State.event f s) (change : f s = t) :
      exec i s = .next t.judgeAttention := by
    rw [run, State.event_up _ _ up, change]
  refine ⟨fun b stop ignores => event _ rfl (State.characterReceived_ignores ignores b stop), fun heeds => ?_,
    event _ rfl rfl, fun idle => event _ rfl (State.answerSent_idle idle),
    fun a sends free => event _ rfl (State.answerSent_empty sends free),
    fun a f sends waits => event _ rfl (State.answerSent_waiting sends waits),
    fun ignores => event _ rfl (State.linkBreak_ignores ignores),
    fun heeds other => event _ rfl (State.linkBreak_other heeds other), fun heeds presetter free => ?_,
    fun j heeds presetter current => ?_, event _ rfl rfl⟩
  · have good {b : Byte} {r : Receiver} (step : s.receiveByte l b = s.setReceiver l r) :
        exec (.characterReceived l b true) s = heard r := by
      rw [exec_character_good up heeds, step]
      rfl
    exact ⟨fun b hunting => good (State.receiveByte_hunting hunting b),
      fun b length => good (State.receiveByte_length length b),
      fun b n got body short => good (State.receiveByte_body body short b),
      fun hi lo body held => exec_character_last up heeds held lo,
      fun b => event _ rfl (State.characterReceived_framing heeds b)⟩
  · have unoccupied : (s.changeLink l Link.broken).currentJob? = none := free
    exact event _ rfl ((State.linkBreak_presetter heeds presetter).trans (State.presetterReset_unoccupied unoccupied))
  · have occupied : (s.changeLink l Link.broken).currentJob? = some j := current
    exact event _ rfl ((State.linkBreak_presetter heeds presetter).trans (State.presetterReset_occupied occupied))

end Sys2Proof.Machine
